-- ==== Sys2Proof/Word.lean ====
section
/-! DEFINITION. The word types of the block: what its ports and registers carry (spec/00_scope.md R16, spec/30_encoding.md R110, R119). -/

namespace Sys2Proof

/-- A byte: the unit of `TXB` and `RXB`, and every 8-bit operand (R82, R119). -/
abbrev Byte := BitVec 8

/-- A command word or a response word (R82, R110, R117). -/
abbrev Word := BitVec 32

/-- A 7-bit bus address (R8, R80). -/
abbrev BusAddr := BitVec 7

/-- A 24-bit value: the counters `TCNT`, `TBUDGET`, the immediates of `WAIT` and `STMO`, the data field (R10, R117). -/
abbrev Imm24 := BitVec 24

/-- The 2-bit frequency code (R32). -/
abbrev FreqCode := BitVec 2

end Sys2Proof
end

