-- ==== Sys2Proof/Config.lean ====
section
/-! DEFINITION. What an implementation fixes (the parameters of spec/00_scope.md R8 to R14), the moves the environment may make
(R15, R18, R19), and the free values. The opaque constants have no body: nothing in Lean can evaluate them. -/

namespace Sys2Proof

/-- The parameters of one instance of the block, each OPEN in the spec (R8 to R13). The constraints the spec sets are built into
the types, so every value of this type is a legal parameter set (log entry 2). -/
structure Params where
  /-- `TARGET_ADDR` (R8). -/
  targetAddr  : BusAddr
  /-- `DATA_CAP - 6`, so that 6 ≤ `DATA_CAP` ≤ 254 (R9). -/
  capIndex    : Fin 249
  /-- `TMO_DEFAULT` (R10). -/
  tmoDefault  : Imm24
  /-- `DIV[f] - 1`, so that every `DIV[f]` is positive (R11). -/
  divPred     : Vector Nat 4
  /-- The arguments `(sclpin, sdapin, freq)` for which `INIT_OK` is false (R12): every predicate on them is such a list. -/
  initRefused : List (Byte × Byte × FreqCode)
  /-- `SPR_REG` and `SPR_VAL` (R13). -/
  sprReg      : Byte
  sprVal      : Byte
  /-- `PWR_REG` and `PWR_VAL` (R13). -/
  pwrReg      : Byte
  pwrVal      : Byte
  /-- `CFG_BASE` (R13). -/
  cfgBase     : Byte
  /-- `CFG_DATA[0]`, and the bytes after it (R13). -/
  cfgHead     : Byte
  cfgTail     : List Byte
  deriving DecidableEq, Repr, Inhabited

/-- `DATA_CAP`, the largest number of data bytes in one transfer (R9). -/
def Params.dataCap (p : Params) : Nat := p.capIndex.val + 6

/-- `TXCAP = DATA_CAP + 1` (R9, R81). -/
def Params.txCap (p : Params) : Nat := p.capIndex.val + 7

/-- `RXCAP = DATA_CAP` (R9, R81). -/
def Params.rxCap (p : Params) : Nat := p.dataCap

/-- `DIV[f]`, the number of `clk` cycles in one wire phase (R11). -/
def Params.div (p : Params) (f : FreqCode) : Nat := p.divPred[f.toFin] + 1

/-- `INIT_OK(sclpin, sdapin, freq)` (R12). -/
def Params.initOk (p : Params) (sclpin sdapin : Byte) (freq : FreqCode) : Bool :=
  !p.initRefused.contains (sclpin, sdapin, freq)

/-- `CFG_DATA[0 .. CFG_LEN-1]`; its length `CFG_LEN` is 1 to `DATA_CAP` (R13). -/
def Params.cfgData (p : Params) : List Byte := (p.cfgHead :: p.cfgTail).take p.dataCap

/-- `CFG_LEN` (R13). -/
def Params.cfgLen (p : Params) : Nat := p.cfgData.length

/-- `ACCEL_BASE`, the accelerometer high-byte register (R13). -/
def accelBase : Byte := 0x3B

/-- `POLL_CYCLES`, the number of `clk` cycles of one wait iteration (R14). -/
def pollCycles : Nat := 1

/-- The inputs of one `clk` edge of the clocked block (spec/60_exceptions.md R322, spec/70_reset_and_hazards.md R362, R363). -/
structure EdgeIn where
  /-- `rst_n` at the edge (R340). -/
  rstN     : Bool
  /-- The host presents its next word at this edge: `cmd_valid` (R21). -/
  cmdValid : Bool
  /-- The target's drivers: `true` releases the line, `false` pulls it low (R171). -/
  sclT     : Bool
  sdaT     : Bool
  /-- The mover, when enabled, takes its step at this edge (R155, R363). -/
  moverGo  : Bool
  /-- The completion unit, when enabled, takes its step at this edge (R311, R363). -/
  cbGo     : Bool
  deriving DecidableEq, Repr, Inhabited

/-- One move of the environment: which agent steps next, with the free draws its step needs (R15, R18, R19). -/
inductive Move where
  /-- `reset`, which may occur at any time (R340). -/
  | reset
  /-- `host_cmd` of the host's next word (R19). -/
  | host
  /-- `seq_step` (R19). -/
  | seq
  /-- `fe_step` with the target's drivers `scl_t`, `sda_t` (R19, R171). -/
  | fe (sclT sdaT : Bool)
  /-- `mover_step` (R155). -/
  | mover
  /-- `cb_step` (R311). -/
  | cb
  /-- One edge of `clk`: the clocked schedule (R322). -/
  | edge (e : EdgeIn)
  deriving DecidableEq, Repr, Inhabited

namespace Config

/-- The parameters of the instance the model starts from: OPEN in the spec, so no value is given (R8 to R13). -/
opaque params : Params

/-- The value of the `n`-th free byte: what a buffer byte nothing has written reads as (R15 (d), R84). -/
opaque freeByte : Nat → Byte

/-- The `n`-th free choice of the environment, where no listed move is left (R15, R18). -/
opaque freeMove : Nat → Move

end Config

end Sys2Proof
end

