-- ==== Sys2Proof/Syntax.lean ====
section
/-! DEFINITION. The commands of the block, one constructor per row of spec/opcode_table.json (spec/30_encoding.md R116), the
assembler lines of R125, and what a host program is made of: command words and pseudo-commands (R126). -/

namespace Sys2Proof

/-- A command with its operands (R110 to R116, R119). -/
inductive Instr where
  /-- `INIT sclpin, sdapin, freq` (R115, R290). -/
  | init (sclpin sdapin : Byte) (freq : FreqCode)
  /-- `FRST` (R111, R210). -/
  | frst
  /-- `SUBMIT.W addr, len`: write frame (R114, R140). -/
  | submitW (addr : BusAddr) (len : Byte)
  /-- `SUBMIT.WN addr, len`: write frame with no trailing STOP (R114, R140). -/
  | submitWN (addr : BusAddr) (len : Byte)
  /-- `SUBMIT.R addr, len`: read frame (R114, R140). -/
  | submitR (addr : BusAddr) (len : Byte)
  /-- `SUBMIT.RN addr, len`: malformed, always rejected (R114, R140, R141). -/
  | submitRN (addr : BusAddr) (len : Byte)
  /-- `WAIT imm24` (R113, R212). -/
  | wait (budget : Imm24)
  /-- `WREG reg, value` (R112, R238). -/
  | wreg (reg value : Byte)
  /-- `WBLK reg, len` (R112, R239). -/
  | wblk (reg len : Byte)
  /-- `RBLK reg, len` (R112, R240). -/
  | rblk (reg len : Byte)
  /-- `STB idx, byte` (R112, R260). -/
  | stb (idx byte : Byte)
  /-- `LDB idx` (R112, R261). -/
  | ldb (idx : Byte)
  /-- `STMO imm24` (R113, R216). -/
  | stmo (budget : Imm24)
  /-- `RDST sel` (R112, R262). -/
  | rdst (sel : Byte)
  deriving DecidableEq, Repr

/-- The mnemonics of the opcode map (R116). -/
inductive Mnemonic where
  | INIT | FRST | SUBMIT_W | SUBMIT_WN | SUBMIT_R | SUBMIT_RN | WAIT
  | WREG | WBLK | RBLK | STB | LDB | STMO | RDST
  deriving DecidableEq, Repr

/-- The mnemonic of a command (R116). -/
def Instr.mnemonic : Instr → Mnemonic
  | .init _ _ _   => .INIT
  | .frst         => .FRST
  | .submitW _ _  => .SUBMIT_W
  | .submitWN _ _ => .SUBMIT_WN
  | .submitR _ _  => .SUBMIT_R
  | .submitRN _ _ => .SUBMIT_RN
  | .wait _       => .WAIT
  | .wreg _ _     => .WREG
  | .wblk _ _     => .WBLK
  | .rblk _ _     => .RBLK
  | .stb _ _      => .STB
  | .ldb _        => .LDB
  | .stmo _       => .STMO
  | .rdst _       => .RDST

/-- One line of the assembler syntax of R125: a mnemonic and the numbers written after it. -/
structure AsmLine where
  mnemonic : Mnemonic
  operands : List Nat
  deriving DecidableEq, Repr

/-- The assembler line that spells a command (R125). -/
def Instr.asm : Instr → AsmLine
  | .init scl sda f => ⟨.INIT, [scl.toNat, sda.toNat, f.toNat]⟩
  | .frst           => ⟨.FRST, []⟩
  | .submitW a n    => ⟨.SUBMIT_W, [a.toNat, n.toNat]⟩
  | .submitWN a n   => ⟨.SUBMIT_WN, [a.toNat, n.toNat]⟩
  | .submitR a n    => ⟨.SUBMIT_R, [a.toNat, n.toNat]⟩
  | .submitRN a n   => ⟨.SUBMIT_RN, [a.toNat, n.toNat]⟩
  | .wait b         => ⟨.WAIT, [b.toNat]⟩
  | .wreg r v       => ⟨.WREG, [r.toNat, v.toNat]⟩
  | .wblk r n       => ⟨.WBLK, [r.toNat, n.toNat]⟩
  | .rblk r n       => ⟨.RBLK, [r.toNat, n.toNat]⟩
  | .stb i b        => ⟨.STB, [i.toNat, b.toNat]⟩
  | .ldb i          => ⟨.LDB, [i.toNat]⟩
  | .stmo b         => ⟨.STMO, [b.toNat]⟩
  | .rdst s         => ⟨.RDST, [s.toNat]⟩

/-- The two pseudo-commands (R126; spec/46_host_sequences.md R277, R282). -/
inductive Pseudo where
  | initSensor (sclpin sdapin : Byte) (freq : FreqCode)
  | rdAxis
  deriving DecidableEq, Repr

/-- One item of what the host is going to do: present a command word, or execute a pseudo-command (R60, R126). -/
inductive HostItem where
  | word (w : Word)
  | call (c : Pseudo)
  deriving DecidableEq, Repr

end Sys2Proof
end

