-- ==== Sys2Proof/Machine/State.lean ====
section
/-! DEFINITION. The state of the block as plain data (spec/10_state.md), what stands around it (the host's program, the coming moves
of the environment), why a step may stop, and the state after reset (R64). -/

namespace Sys2Proof.Machine

/-- `LC`, the lifecycle of the bus peripheral (R31); the code 3 is never taken. -/
inductive Lifecycle where
  | uninit | ready | failed
  deriving DecidableEq, Repr

/-- The values of `EVT`, `EVTP` and `ERRC` (R44, R45, R50); the codes 6 and 7 are never taken. -/
inductive Ev where
  | none | done | addressNack | dataNack | overrun | busError
  deriving DecidableEq, Repr

/-- The result codes (spec/60_exceptions.md R300); the codes 8 to 14 are never produced. -/
inductive Code where
  | success | submissionRejected | addressNack | dataNack | overrun | busError | timeout | initFailed | illegal
  deriving DecidableEq, Repr

/-- The reject causes (spec/60_exceptions.md R301); the codes 6 to 15 are never produced. -/
inductive Rej where
  | none | notReady | busy | notArmed | badForm | badLength
  deriving DecidableEq, Repr

/-- `FES`, the engine's state (R51). -/
inductive EngineState where
  | idle | run | drain | held
  deriving DecidableEq, Repr

/-- `SYM`, the symbols of the wire (R53, spec/41_bus_transport.md R150). -/
inductive Sym where
  | s | sr | txa | acka | txd | ackd | rxbit | mack | p | h
  deriving DecidableEq, Repr

/-- `SEQ`, the sequencer's control point (R52); the codes 6 and 7 are never taken. -/
inductive SeqPoint where
  | idle | waitW | primW | rb1W | rb2L | rb2W
  deriving DecidableEq, Repr

/-- A byte buffer: the bytes written since reset, by rising index (R47, R48). An index that is not listed has never been written
and holds no value (spec/20_memory.md R84). -/
abbrev Memory := List Host.Cell

/-- The points of `INITSENSOR`: the command it presents next (spec/46_host_sequences.md R277). -/
inductive InitPoint where
  | init | resetCommand | powerManagement | store (i : Nat) | configBlock
  deriving DecidableEq, Repr

/-- The pseudo-command the host is executing (spec/46_host_sequences.md R275, R277, R282). -/
inductive HostJob where
  /-- `INITSENSOR` with its operands. -/
  | initSensor (at_ : InitPoint) (sclpin sdapin : Byte) (freq : FreqCode)
  /-- `RDAXIS` before its `RBLK` is answered. -/
  | readBlock
  /-- `RDAXIS` loading bytes, with those it has got. -/
  | loadBytes (got : List Byte)
  deriving DecidableEq, Repr

/-- What a pseudo-command returns to its caller (spec/46_host_sequences.md R277, R282, R283). -/
inductive HostResult where
  /-- `INITSENSOR` returned Ok. -/
  | initOk
  /-- `INITSENSOR` returned Err(InitFailed). -/
  | initFailed
  /-- `RDAXIS` returned Ok(AxisSample(x, y, z)). -/
  | sample (x y z : Int)
  /-- `RDAXIS` returned Err(code), the response's code field unchanged. -/
  | axisError (code : BitVec 4)
  deriving DecidableEq, Repr

/-- The operations whose failure the host logs (spec/46_host_sequences.md R277). -/
inductive HostOp where
  | init | resetCommand | powerManagement | configBlock
  deriving DecidableEq, Repr

/-- One entry of the host's log: the operation, and the response's code and reject cause (spec/46_host_sequences.md R275). -/
structure LogEntry where
  op   : HostOp
  code : BitVec 4
  rej  : BitVec 4
  deriving DecidableEq, Repr

/-- The whole state. One-bit line and flag registers are Bools: `true` is 1; on a line, `true` is released. -/
structure State where
  /-- The instance's parameters (R60): no step writes them. -/
  par     : Params
  /-- R31 to R35. -/
  lc      : Lifecycle
  sclpin  : Byte
  sdapin  : Byte
  freq    : FreqCode
  hreg    : Bool
  ien     : Bool
  en      : Bool
  /-- The arbiter, R37 to R39. -/
  lock    : Bool
  armed   : Bool
  busy    : Bool
  /-- Flag, budget, counter, events, result registers, R41 to R46. -/
  cflag   : Bool
  tbudget : Imm24
  tcnt    : Imm24
  evt     : Ev
  evtp    : Ev
  res     : Code
  rej     : Rej
  /-- Buffers, R47, R48. -/
  txb     : Memory
  rxb     : Memory
  /-- The latched frame descriptor, R49. -/
  dir     : Bool
  nostop  : Bool
  addr    : BusAddr
  len     : Byte
  /-- Engine data registers, R50. -/
  idx     : Byte
  bitc    : BitVec 3
  shift   : Byte
  errc    : Ev
  samp    : Bool
  /-- Engine state and claim, R51; sequencer, R52; engine control point `(SYM, PHI)`, R53. -/
  fes     : EngineState
  claimed : Bool
  seq     : SeqPoint
  rlen    : Byte
  sym     : Sym
  phi     : Fin 4
  /-- Receive holding register, R54. -/
  rxd     : Byte
  rxv     : Bool
  ridx    : Byte
  /-- Line drivers and phase counter, R55. -/
  sclO    : Bool
  sdaO    : Bool
  qcnt    : Nat
  /-- The response port: the response word the last step produced, if it produced one (R21, R117). -/
  rsp     : Option Word
  /-- What the host is going to do, in order (R60, R126). -/
  prog    : List HostItem
  /-- The pseudo-command in execution, its result, and the host's log (spec/46_host_sequences.md R275). -/
  job     : Option HostJob
  hostResult : Option HostResult
  hostLog : List LogEntry
  /-- The environment's coming moves (R15, R18); where none is listed, the move is free. -/
  agenda  : List Move
  /-- How many free values have been drawn. -/
  draws   : Nat
  deriving DecidableEq, Repr

/-- Why the machine stops with a fault. No command raises one: all three are raised by the agents, in states no run reaches. -/
inductive Fault where
  /-- `classify(None)` (R234, U20): raised by `seq_step` when a wait ended `Done` and `EVT` is `None`. Safe: the spec allows the fault. -/
  | classifyNone
  /-- The engine's control point names a phase no rule gives (R174, R179, U19): raised by `fe_step`. Safe: the model stops. -/
  | enginePoint
  /-- The engine or the mover used an index outside its buffer (R80, R81): raised by `fe_step` and `mover_step`. Safe: the model stops. -/
  | noSuchByte
  deriving DecidableEq, Repr

/-- Why the machine refuses an instruction. -/
inductive Refusal where
  /-- Raised by `exec` for an instruction that has no meaning yet. Safe: the model stops. No arm raises it in this model. -/
  | notModelled (mnemonic : String)
  deriving DecidableEq, Repr

/-- The outcome of a step. -/
abbrev Result := Host.Outcome State Fault Refusal

/-- The state right after reset (R64, R340, R341), of the instance with parameters `p`. -/
def State.resetOf (p : Params) : State where
  par := p
  lc := .uninit
  sclpin := 0
  sdapin := 0
  freq := 0
  hreg := false
  ien := false
  en := false
  lock := false
  armed := false
  busy := false
  cflag := false
  tbudget := p.tmoDefault
  tcnt := 0
  evt := .none
  evtp := .none
  res := .success
  rej := .none
  txb := []
  rxb := []
  dir := false
  nostop := false
  addr := 0
  len := 0
  idx := 0
  bitc := 0
  shift := 0
  errc := .none
  samp := false
  fes := .idle
  claimed := false
  seq := .idle
  rlen := 0
  sym := .s
  phi := 0
  rxd := 0
  rxv := false
  ridx := 0
  sclO := true
  sdaO := true
  qcnt := 0
  rsp := none
  prog := []
  job := none
  hostResult := none
  hostLog := []
  agenda := []
  draws := 0

/-- The machine right after reset; its parameters are open, so they are the opaque ones of Config (R8 to R13). -/
def State.reset : State := State.resetOf Config.params

end Sys2Proof.Machine
end

