-- ==== Sys2Proof/Machine/Flags.lean ====
section
/-! DEFINITION. The codes of the small registers, the derived flags, and the readable registers' layouts (spec/10_state.md R31, R44,
R51, R56 to R59; spec/60_exceptions.md R300, R301, R312). -/

namespace Sys2Proof.Machine

/-- One bit of a register. -/
def bit (b : Bool) : BitVec 1 := BitVec.ofBool b

/-- The code of `LC` (R31). -/
def Lifecycle.bits : Lifecycle → BitVec 2
  | .uninit => 0
  | .ready  => 1
  | .failed => 2

/-- The code of an event (R44). -/
def Ev.bits : Ev → BitVec 3
  | .none        => 0
  | .done        => 1
  | .addressNack => 2
  | .dataNack    => 3
  | .overrun     => 4
  | .busError    => 5

/-- The code of `FES` (R51). -/
def EngineState.bits : EngineState → BitVec 2
  | .idle  => 0
  | .run   => 1
  | .drain => 2
  | .held  => 3

/-- The result code's number (R300). -/
def Code.bits : Code → BitVec 4
  | .success            => 0
  | .submissionRejected => 1
  | .addressNack        => 2
  | .dataNack           => 3
  | .overrun            => 4
  | .busError           => 5
  | .timeout            => 6
  | .initFailed         => 7
  | .illegal            => 15

/-- The reject cause's number (R301). -/
def Rej.bits : Rej → BitVec 4
  | .none      => 0
  | .notReady  => 1
  | .busy      => 2
  | .notArmed  => 3
  | .badForm   => 4
  | .badLength => 5

/-- The level of the `irq` pin (R312). -/
def irq (s : State) : Bool := s.evtp != .none && s.ien

/-- `cmd_ready`: `LOCK = 0` while `rst_n = 1`, and 0 while `rst_n = 0` (R21, R37; spec/70_reset_and_hazards.md R340; spec/90_conflicts.md C9). -/
def cmdReady (rstN : Bool) (s : State) : Bool := rstN && !s.lock

/-- `STATUS` (R56). -/
def statusReg (s : State) : Imm24 :=
  (0 : BitVec 8) ++ s.fes.bits ++ s.evtp.bits ++ bit (irq s) ++ bit s.rxv ++ bit s.claimed ++ bit s.cflag
    ++ bit s.busy ++ bit s.armed ++ bit s.hreg ++ bit s.ien ++ bit s.en ++ s.lc.bits

/-- `LAST` (R57). -/
def lastReg (s : State) : Imm24 := (0 : BitVec 16) ++ s.rej.bits ++ s.res.bits

/-- `EVENT` (R58). -/
def eventReg (s : State) : Imm24 := (0 : BitVec 21) ++ s.evt.bits

/-- `CONFIG` (R59). -/
def configReg (s : State) : Imm24 := (0 : BitVec 6) ++ s.freq ++ s.sclpin ++ s.sdapin

end Sys2Proof.Machine
end

