-- ==== Sys2Proof/Machine/Ops.lean ====
section
/-! DEFINITION. The shared operations: buffers, responses, the flag's reset, the launch of a frame, the illegal-word result, and the
completion interrupt. Each is one procedure of the spec, named by its rule. -/

namespace Sys2Proof.Machine

/-- Sequencing of two parts of one step. -/
def chain (r : Result) (f : State → Result) : Result :=
  match r with
  | .next s    => f s
  | .fault e   => .fault e
  | .refused e => .refused e

/-- The byte at index `i`, or none where nothing has been written since reset (R84). -/
def Memory.get : Memory → Nat → Option Byte
  | [], _           => none
  | (a, b) :: m, i  => if a = i then some b else Memory.get m i

/-- `M[i] <- b`, keeping the list sorted (R82: one byte, whole). -/
def Memory.put : Memory → Nat → Byte → Memory
  | [], i, b            => [(i, b)]
  | (a, c) :: m, i, b   =>
    if i < a then (i, b) :: (a, c) :: m
    else if i = a then (i, b) :: m
    else (a, c) :: Memory.put m i b

/-- The canonical form: indices strictly rising. -/
abbrev Memory.wf (m : Memory) : Prop := m.Pairwise (fun a b => a.1 < b.1)

/-- Every index lies in a buffer of `cap` bytes (R80, R81). -/
abbrev Memory.within (m : Memory) (cap : Nat) : Prop := ∀ c ∈ m, c.1 < cap

/-- What a byte that nothing has written reads as: the free value of draw number `n` (R84, U1). -/
def Memory.unwritten (n : Nat) : Byte := Config.freeByte n

/-- The value a read of index `i` gives, with the draw it would use (R84). -/
def Memory.read (m : Memory) (i n : Nat) : Byte := (Memory.get m i).getD (Memory.unwritten n)

/-- The draws used after that read: two reads of an unwritten byte may differ (R84). -/
def Memory.drawsAfter (m : Memory) (i n : Nat) : Nat := if (Memory.get m i).isSome then n else n + 1

/-- The response word `{data, rej, code}` (R117). -/
def responseWord (c : Code) (r : Rej) (data : Imm24) : Word := data ++ r.bits ++ c.bits

/-- `RES <- c; REJ <- r; return c` with `data`: the end of every command but a legal `RDST` (R46, R117, R118). -/
def answer (c : Code) (r : Rej) (data : Imm24) (s : State) : State :=
  { s with res := c, rej := r, rsp := some (responseWord c r data) }

/-- `return Success` with `data` and `RES`, `REJ` left alone: a legal `RDST` (R262). -/
def answerOnly (data : Imm24) (s : State) : State :=
  { s with rsp := some (responseWord .success .none data) }

/-- `raise Illegal`: the word is consumed, `RES <- Illegal`, `REJ <- 0`, nothing else (R303). -/
def raiseIllegal (s : State) : State := answer .illegal .none 0 s

/-- `flag_reset()` (R210). -/
def flagReset (s : State) : State := { s with cflag := false, armed := !s.busy }

/-- `Q = DIV[FREQ]` (R172). -/
def phaseCycles (s : State) : Nat := s.par.div s.freq

/-- `launch(dir, nostop, addr, len)` (R142), with the phase counter's load (R362). -/
def launch (dir nostop : Bool) (addr : BusAddr) (len : Byte) (s : State) : State :=
  { s with
    dir := dir, nostop := nostop, addr := addr, len := len,
    idx := 0, errc := .none,
    ridx := if dir then 0 else s.ridx,
    rxv := if dir then false else s.rxv,
    armed := false, busy := true,
    sym := if s.claimed then .sr else .s, phi := 0,
    fes := .run,
    qcnt := phaseCycles s }

/-- `finish(code)`: the end of a multi-step command without data (R233). -/
def finish (c : Code) (s : State) : State :=
  answer c .none 0 { s with lock := false, seq := .idle }

/-- Taking the completion interrupt: the whole effect of `cb_step` (R311). It saves nothing and redirects nothing (R315), and
there is nothing to return from (R316). -/
def deliverCompletion (s : State) : State :=
  { s with evt := s.evtp, cflag := true, evtp := .none, busy := false }

/-- The interrupt is taken: `cb_step` is enabled (R19, R311). -/
def cbEnabled (s : State) : Bool := s.evtp != .none && s.ien && s.hreg

/-- `cb_step` (R311); where it is not enabled nothing happens (log entry 1). -/
def cbStep (s : State) : State := if cbEnabled s then deliverCompletion s else s

/-- The block's reset: every piece of its state takes the value of R64 (R340). Parameters, program, agenda, log and draw counter are not the
block's; the host's pseudo-command is abandoned with the response it waits for (log entry 11). -/
def resetBlock (s : State) : State :=
  { State.resetOf s.par with
    prog := s.prog, hostResult := s.hostResult, hostLog := s.hostLog, agenda := s.agenda, draws := s.draws }

end Sys2Proof.Machine
end

