-- ==== Sys2Proof/Machine/Operands.lean ====
section
/-! DEFINITION. The checks on operands: submission, primitives, buffer indices, selectors (spec/41_bus_transport.md R141,
spec/44_transaction_primitives.md R232, spec/45_buffer_status.md R260 to R262). -/

namespace Sys2Proof.Machine

/-- The capacity of the buffer a frame's direction implies (R49, R81). -/
def frameCap (p : Params) (dir : Bool) : Nat := if dir then p.rxCap else p.txCap

/-- `submit_check(dir, nostop, len)`: the first failing test decides (R141, R320). -/
def submitCheck (dir nostop : Bool) (len : Byte) (s : State) : Rej :=
  if s.lc ≠ .ready then .notReady
  else if s.busy = true then .busy
  else if s.armed = false then .notArmed
  else if dir = true ∧ nostop = true then .badForm
  else if len = 0 then .badLength
  else if frameCap s.par dir < len.toNat then .badLength
  else .none

/-- `prim_check(len)` (R232). -/
def primCheck (len : Byte) (s : State) : Rej :=
  if s.lc ≠ .ready then .notReady
  else if s.busy = true then .busy
  else if len = 0 ∨ s.par.dataCap < len.toNat then .badLength
  else .none

/-- `STB` may store at `idx`: in range, and no write frame outstanding (R260). -/
def storeAllowed (idx : Byte) (s : State) : Bool :=
  decide (idx.toNat < s.par.txCap) && !(s.busy && !s.dir)

/-- `LDB` may load from `idx`: in range, and no read frame outstanding (R261). -/
def loadAllowed (idx : Byte) (s : State) : Bool :=
  decide (idx.toNat < s.par.rxCap) && !(s.busy && s.dir)

/-- The register a selector of `RDST` names; selectors 6 to 255 are reserved (R59, R262). -/
def selected (sel : Byte) (s : State) : Option Imm24 :=
  match sel.toNat with
  | 0 => some (statusReg s)
  | 1 => some (lastReg s)
  | 2 => some (eventReg s)
  | 3 => some s.tbudget
  | 4 => some s.tcnt
  | 5 => some (configReg s)
  | _ => none

end Sys2Proof.Machine
end

