-- ==== Sys2Proof/Machine/Buffers.lean ====
section
/-! DEFINITION. Buffer and status access: `STB`, `LDB`, `RDST` (spec/45_buffer_status.md R260 to R262). -/

namespace Sys2Proof.Machine

/-- `STB idx, byte` (R260). -/
def execStb (idx byte : Byte) (s : State) : Host.Outcome State Fault Refusal :=
  .next <|
    if storeAllowed idx s = true then answer .success .none 0 { s with txb := Memory.put s.txb idx.toNat byte }
    else raiseIllegal s

/-- `LDB idx` (R261); a byte nothing has written is a free draw (R84). -/
def execLdb (idx : Byte) (s : State) : Host.Outcome State Fault Refusal :=
  .next <|
    if loadAllowed idx s = true then
      answer .success .none ((0 : BitVec 16) ++ Memory.read s.rxb idx.toNat s.draws)
        { s with draws := Memory.drawsAfter s.rxb idx.toNat s.draws }
    else raiseIllegal s

/-- `RDST sel` (R262). -/
def execRdst (sel : Byte) (s : State) : Host.Outcome State Fault Refusal :=
  .next <|
    match selected sel s with
    | some v => answerOnly v s
    | none   => raiseIllegal s

end Sys2Proof.Machine
end

