-- ==== Sys2Proof/Machine/Completion.lean ====
section
/-! DEFINITION. The completion flag and the timeout counter: `FRST`, `WAIT`, `STMO`, and one iteration of the poll
(spec/43_completion_wait.md R210 to R216). -/

namespace Sys2Proof.Machine

/-- What one iteration of the poll returns (R213). -/
inductive WaitResult where
  | continue_ | done | timeout
  deriving DecidableEq, Repr

/-- `TCNT - 1`, never below 0 (R43, R213; at 0, where no run iterates, it stays 0: log entry 8). -/
def countDown (t : Imm24) : Imm24 := if t = 0 then 0 else t - 1

/-- What the iteration returns: the flag is tested before the counter (R213, R323). -/
def waitResult (s : State) : WaitResult :=
  if s.cflag = true then .done else if countDown s.tcnt = 0 then .timeout else .continue_

/-- The iteration's effect on the state (R213). -/
def waitTick (s : State) : State := { s with tcnt := countDown s.tcnt }

/-- `FRST` (R210). -/
def execFrst (s : State) : Host.Outcome State Fault Refusal :=
  .next (answer .success .none 0 (flagReset s))

/-- `WAIT b`, the `host_cmd` step (R212). -/
def execWait (budget : Imm24) (s : State) : Host.Outcome State Fault Refusal :=
  .next <|
    if budget = 0 then answer .timeout .none 0 { s with tcnt := budget }
    else { s with tcnt := budget, lock := true, seq := .waitW }

/-- The end of a `WAIT`, with `TCNT` as data (R118, R212). -/
def finishWait (c : Code) (s : State) : State :=
  answer c .none s.tcnt { s with lock := false, seq := .idle }

/-- `seq_step` with `SEQ = WAIT_W` (R212). -/
def waitStep (s : State) : State :=
  match waitResult s with
  | .continue_ => waitTick s
  | .done      => finishWait .success (waitTick s)
  | .timeout   => finishWait .timeout (waitTick s)

/-- `STMO b` (R216). -/
def execStmo (budget : Imm24) (s : State) : Host.Outcome State Fault Refusal :=
  .next (answer .success .none 0 { s with tbudget := budget })

end Sys2Proof.Machine
end

