-- ==== Sys2Proof/Machine/Lifecycle.lean ====
section
/-! DEFINITION. The bus lifecycle: `INIT` (spec/47_bus_lifecycle.md R290 to R292). -/

namespace Sys2Proof.Machine

/-- The four sub-steps of a successful `INIT`, one atomic step (R290). -/
def configure (sclpin sdapin : Byte) (freq : FreqCode) (s : State) : State :=
  { s with sclpin := sclpin, sdapin := sdapin, freq := freq, hreg := true, ien := true, en := true, lc := .ready }

/-- `INIT sclpin, sdapin, freq` (R290). -/
def execInit (sclpin sdapin : Byte) (freq : FreqCode) (s : State) : Host.Outcome State Fault Refusal :=
  .next <|
    if s.lc ≠ .uninit then answer .initFailed .none 0 s
    else if s.par.initOk sclpin sdapin freq = true then answer .success .none 0 (configure sclpin sdapin freq s)
    else answer .initFailed .none 0 { s with lc := .failed }

end Sys2Proof.Machine
end

