-- ==== Sys2Proof/Machine/Primitives.lean ====
section
/-! DEFINITION. The transaction primitives: `WREG`, `WBLK`, `RBLK`, their launch and their wait phases
(spec/44_transaction_primitives.md R231 to R243). -/

namespace Sys2Proof.Machine

/-- The part of `prim_launch` after a passed check: staging, launch, and the wait's start (R231). -/
def primStart (dir nostop : Bool) (n : Byte) (txb : Memory) (waitAt : SeqPoint) (s : State) : State :=
  let launched := launch dir nostop s.par.targetAddr n { s with txb := txb }
  let loaded := { launched with tcnt := s.tbudget }
  if s.tbudget = 0 then finish .timeout loaded
  else { loaded with lock := true, seq := waitAt }

/-- `prim_launch(dir, nostop, n, len, stage)`, with `stage` as the contents of `TXB` it leaves (R231). -/
def primLaunch (dir nostop : Bool) (n len : Byte) (txb : Memory) (waitAt : SeqPoint) (s : State) : State :=
  match primCheck len (flagReset s) with
  | .none => primStart dir nostop n txb waitAt (flagReset s)
  | cause => answer .submissionRejected cause 0 { flagReset s with lock := false, seq := .idle }

/-- `WREG reg, value` (R238). -/
def execWreg (reg value : Byte) (s : State) : Host.Outcome State Fault Refusal :=
  .next (primLaunch false false 2 1 (Memory.put (Memory.put s.txb 0 reg) 1 value) .primW s)

/-- `WBLK reg, len` (R239). -/
def execWblk (reg len : Byte) (s : State) : Host.Outcome State Fault Refusal :=
  .next (primLaunch false false (len + 1) len (Memory.put s.txb 0 reg) .primW s)

/-- `RBLK reg, len`: phase one; `RLEN` is written before the checks (R240). -/
def execRblk (reg len : Byte) (s : State) : Host.Outcome State Fault Refusal :=
  .next (primLaunch false true 1 len (Memory.put s.txb 0 reg) .rb1W { s with rlen := len })

/-- `classify(e)`; none for the event `None`, which no wait meets (R234). -/
def classify : Ev → Option Code
  | .none        => none
  | .done        => some .success
  | .addressNack => some .addressNack
  | .dataNack    => some .dataNack
  | .overrun     => some .overrun
  | .busError    => some .busError

/-- `finish(classify(EVT))` (R233); `classify(None)` is a fault (R234, U20). -/
def finishClassified (s : State) : Result :=
  match classify s.evt with
  | some c => .next (finish c s)
  | none   => .fault .classifyNone

/-- `seq_step` with `SEQ = PRIM_W` or `RB2_W` (R233, R243). -/
def primWaitStep (s : State) : Result :=
  match waitResult s with
  | .continue_ => .next (waitTick s)
  | .timeout   => .next (finish .timeout (waitTick s))
  | .done      => finishClassified (waitTick s)

/-- `seq_step` with `SEQ = RB1_W` (R241). -/
def readPhaseOneStep (s : State) : Result :=
  match waitResult s with
  | .continue_ => .next (waitTick s)
  | .timeout   => .next (finish .timeout (waitTick s))
  | .done      =>
    match classify s.evt with
    | some .success => .next { waitTick s with seq := .rb2L }
    | _             => finishClassified (waitTick s)

/-- `seq_step` with `SEQ = RB2_L`, the launch of phase two (R242). -/
def readPhaseTwoLaunch (s : State) : State :=
  match submitCheck true false s.rlen (flagReset s) with
  | .none =>
    { launch true false s.par.targetAddr s.rlen (flagReset s) with tcnt := s.tbudget, seq := .rb2W }
  | cause => answer .submissionRejected cause 0 { flagReset s with lock := false, seq := .idle }

/-- `seq_step`, by the control point (R52, R249). With `SEQ = IDLE` there is nothing to do. -/
def seqStep (s : State) : Result :=
  match s.seq with
  | .idle  => .next s
  | .waitW => .next (waitStep s)
  | .primW => primWaitStep s
  | .rb1W  => readPhaseOneStep s
  | .rb2L  => .next (readPhaseTwoLaunch s)
  | .rb2W  => primWaitStep s

end Sys2Proof.Machine
end

