-- ==== Sys2Proof/Machine/Transport.lean ====
section
/-! DEFINITION. The bus transport's command: `SUBMIT` in its four forms (spec/41_bus_transport.md R140 to R144). -/

namespace Sys2Proof.Machine

/-- `SUBMIT(dir, nostop, addr, len)` (R140). -/
def submit (dir nostop : Bool) (addr : BusAddr) (len : Byte) (s : State) : State :=
  match submitCheck dir nostop len s with
  | .none => answer .success .none 0 (launch dir nostop addr len s)
  | cause => answer .submissionRejected cause 0 s

/-- `SUBMIT.W addr, len` (R140). -/
def execSubmitW (addr : BusAddr) (len : Byte) (s : State) : Host.Outcome State Fault Refusal :=
  .next (submit false false addr len s)

/-- `SUBMIT.WN addr, len` (R140). -/
def execSubmitWN (addr : BusAddr) (len : Byte) (s : State) : Host.Outcome State Fault Refusal :=
  .next (submit false true addr len s)

/-- `SUBMIT.R addr, len` (R140). -/
def execSubmitR (addr : BusAddr) (len : Byte) (s : State) : Host.Outcome State Fault Refusal :=
  .next (submit true false addr len s)

/-- `SUBMIT.RN addr, len` (R140): always rejected, by R141. -/
def execSubmitRN (addr : BusAddr) (len : Byte) (s : State) : Host.Outcome State Fault Refusal :=
  .next (submit true true addr len s)

end Sys2Proof.Machine
end

