-- ==== Sys2Proof/Machine/Dispatch.lean ====
section
/-! DEFINITION. The meaning of every command: one arm per constructor of `Instr`. -/

namespace Sys2Proof.Machine

def exec (i : Instr) (s : State) : Host.Outcome State Fault Refusal :=
  match i with
  | .init sclpin sdapin freq => Sys2Proof.Machine.execInit sclpin sdapin freq s
  | .frst => Sys2Proof.Machine.execFrst s
  | .submitW addr len => Sys2Proof.Machine.execSubmitW addr len s
  | .submitWN addr len => Sys2Proof.Machine.execSubmitWN addr len s
  | .submitR addr len => Sys2Proof.Machine.execSubmitR addr len s
  | .submitRN addr len => Sys2Proof.Machine.execSubmitRN addr len s
  | .wait budget => Sys2Proof.Machine.execWait budget s
  | .wreg reg value => Sys2Proof.Machine.execWreg reg value s
  | .wblk reg len => Sys2Proof.Machine.execWblk reg len s
  | .rblk reg len => Sys2Proof.Machine.execRblk reg len s
  | .stb idx byte => Sys2Proof.Machine.execStb idx byte s
  | .ldb idx => Sys2Proof.Machine.execLdb idx s
  | .stmo budget => Sys2Proof.Machine.execStmo budget s
  | .rdst sel => Sys2Proof.Machine.execRdst sel s

end Sys2Proof.Machine
end

