-- ==== Sys2Proof/Machine/Engine.lean ====
section
/-! DEFINITION. The frame engine, one wire phase per step, and the mover (spec/41_bus_transport.md R150 to R158,
spec/42_wire_protocol.md R170 to R186). A line level is a Bool: `true` is high, a driver's `true` releases the line. -/

namespace Sys2Proof.Machine

/-- The bit `MB` the master sends in the ACK slot of a read byte: `true` (NACK) after an error or for the last byte (R154). -/
def masterAck (s : State) : Bool := s.errc != .none || decide (s.idx.toNat + 1 = s.len.toNat)

/-- The bit the symbol in progress sends: `SHIFT[BITC]`, `MB`, or a released SDA (R176, R177). -/
def sentBit (s : State) : Bool :=
  match s.sym with
  | .txa | .txd => s.shift.getLsbD s.bitc.toNat
  | .mack       => masterAck s
  | _           => true

/-- How many phases a symbol has (R173, R191). -/
def Sym.phases : Sym → Nat
  | .s => 3
  | .h => 1
  | _  => 4

/-- `(scl_o, sda_o)` of phase `phi` of symbol `y` sending `b`; none where the symbol has no such phase (R173 to R179). -/
def phaseLines (y : Sym) (b : Bool) (phi : Fin 4) : Option (Bool × Bool) :=
  match y, phi with
  | .s,  0 => some (true, true)
  | .s,  1 => some (true, false)
  | .s,  2 => some (false, false)
  | .s,  3 => none
  | .sr, 0 => some (false, true)
  | .sr, 1 => some (true, true)
  | .sr, 2 => some (true, false)
  | .sr, 3 => some (false, false)
  | .p,  0 => some (false, false)
  | .p,  1 => some (true, false)
  | .p,  2 => some (true, true)
  | .p,  3 => some (true, true)
  | .h,  0 => some (false, true)
  | .h,  _ => none
  | _,   0 => some (false, b)
  | _,   1 => some (true, b)
  | _,   2 => some (true, b)
  | _,   3 => some (false, b)

/-- The lines of the phase in progress. -/
def currentLines (s : State) : Option (Bool × Bool) := phaseLines s.sym (sentBit s) s.phi

/-- SCL-release phases, those that take `scl_o` from 0 to 1 (R180). -/
def isRelease (y : Sym) (phi : Fin 4) : Bool :=
  match y with
  | .s | .h => false
  | _       => phi == 1

/-- The symbols whose phase 1 samples SDA (R176, R177; log entry 6). -/
def samplesSda (y : Sym) (phi : Fin 4) : Bool :=
  match y with
  | .txa | .acka | .txd | .ackd | .rxbit | .mack => phi == 1
  | _ => false

/-- The four causes of BusError, at the phase in progress with line levels `sclI`, `sdaI` (R182 to R186). -/
def phaseBusError (s : State) (sclI sdaI : Bool) : Bool :=
  match s.sym with
  | .s                  => s.phi == 0 && !(sclI && sdaI)
  | .sr                 => s.phi == 1 && !sdaI
  | .txa | .txd | .mack => s.phi == 1 && sentBit s && !sdaI && s.errc == .none
  | .p                  => s.phi == 3 && !sdaI && s.errc == .none
  | _                   => false

/-- The phase in progress is its symbol's last. -/
def isLastPhase (s : State) : Bool := s.phi.val + 1 == s.sym.phases

/-- `SYM` moves to `y`, phase 0 (R150). -/
def toSym (y : Sym) (s : State) : State := { s with sym := y, phi := 0 }

/-- Abort on BusError (R157). -/
def busErrorEnd (s : State) : State :=
  { s with errc := .busError, sclO := true, sdaO := true, claimed := false, rxv := false,
           evtp := .busError, fes := .idle }

/-- `EVTP <- e; FES <- f`: the event of a finished frame (R156, R158). -/
def raiseEvent (e : Ev) (f : EngineState) (s : State) : State := { s with evtp := e, fes := f }

/-- The end of a frame after a completed `P` (R157, R158). -/
def stopDone (s : State) : State :=
  let s := { s with claimed := false }
  if s.errc ≠ .none then raiseEvent s.errc .idle { s with rxv := false }
  else if s.dir = false then raiseEvent .done .idle s
  else if s.rxv = false then raiseEvent .done .idle s
  else { s with fes := .drain }

/-- `fe_step` while `FES = DRAIN` (R158). -/
def drainStep (s : State) : State :=
  if s.rxv = false then raiseEvent .done .idle s else s

/-- `SHIFT <- TXB[i]`, read once, and on to sending it (R151, R152). -/
def loadByte (i : Byte) (s : State) : Result :=
  if i.toNat < s.par.txCap then
    .next (toSym .txd { s with
      idx := i, shift := Memory.read s.txb i.toNat s.draws, bitc := 7,
      draws := Memory.drawsAfter s.txb i.toNat s.draws })
  else .fault .noSuchByte

/-- `v` with bit `i` set to `b`: `SHIFT[BITC] <- v` (R153). -/
def setBit (v : Byte) (i : Nat) (b : Bool) : Byte :=
  (v &&& ~~~(1#8 <<< i)) ||| ((BitVec.ofBool b).zeroExtend 8 <<< i)

/-- The byte in `SHIFT` is complete: holding register or overrun (R154). -/
def byteReceived (s : State) : State :=
  if s.rxv = true then { s with errc := .overrun } else { s with rxd := s.shift, rxv := true }

/-- After a symbol's last phase with result ok or the sampled bit `SAMP`: the transitions of R151 to R158. -/
def symbolDone (s : State) : Result :=
  match s.sym with
  | .s | .sr => .next (toSym .txa { s with shift := s.addr ++ bit s.dir, bitc := 7 })
  | .txa =>
    if s.bitc = 0 then .next (toSym .acka s) else .next (toSym .txa { s with bitc := s.bitc - 1 })
  | .acka =>
    if s.samp = true then .next (toSym .p { s with errc := .addressNack })
    else if s.dir = false then loadByte 0 s
    else .next (toSym .rxbit { s with idx := 0, bitc := 7 })
  | .txd =>
    if s.bitc = 0 then .next (toSym .ackd s) else .next (toSym .txd { s with bitc := s.bitc - 1 })
  | .ackd =>
    if s.samp = true then .next (toSym .p { s with errc := .dataNack })
    else if s.idx.toNat + 1 < s.len.toNat then loadByte (s.idx + 1) s
    else if s.nostop = false then .next (toSym .p s)
    else .next (toSym .h s)
  | .rxbit =>
    let got := { s with shift := setBit s.shift s.bitc.toNat s.samp }
    if s.bitc = 0 then .next (toSym .mack (byteReceived got))
    else .next (toSym .rxbit { got with bitc := s.bitc - 1 })
  | .mack =>
    if s.errc ≠ .none then .next (toSym .p s)
    else if s.idx.toNat + 1 < s.len.toNat then .next (toSym .rxbit { s with idx := s.idx + 1, bitc := 7 })
    else .next (toSym .p s)
  | .p => .next (stopDone s)
  | .h => .next (raiseEvent .done .held { s with claimed := true })

/-- `(scl_o, sda_o)` take the given levels (R172). -/
def drive (lines : Bool × Bool) (s : State) : State := { s with sclO := lines.1, sdaO := lines.2 }

/-- The sample of phase 1 (R176, R177). -/
def sample (sdaI : Bool) (s : State) : State :=
  if samplesSda s.sym s.phi = true then { s with samp := sdaI } else s

/-- The end of a performed phase: sample, check, advance `FEPC`; the phase counter is loaded for the next phase (R172, R362). -/
def performPhase (sclI sdaI : Bool) (s : State) : Result :=
  let sampled := { sample sdaI s with qcnt := phaseCycles s }
  if phaseBusError s sclI sdaI = true then .next (busErrorEnd sampled)
  else if isLastPhase s = true then symbolDone sampled
  else .next { sampled with phi := s.phi + 1 }

/-- The line level: low if anyone pulls it low (R55, R171). -/
def level (driver target : Bool) : Bool := driver && target

/-- `fe_step` while `FES = RUN`, with the target's drivers (R172, R180). -/
def runStep (sclT sdaT : Bool) (s : State) : Result :=
  match currentLines s with
  | none       => .fault .enginePoint
  | some lines =>
    if isRelease s.sym s.phi && !sclT then .next (drive lines s)
    else performPhase (level lines.1 sclT) (level lines.2 sdaT) (drive lines s)

/-- `fe_step` is enabled (R19). -/
def feEnabled (s : State) : Bool := s.fes == .run || s.fes == .drain

/-- `fe_step` (R18, R19); where it is not enabled nothing happens (log entry 1). -/
def feStep (sclT sdaT : Bool) (s : State) : Result :=
  match s.fes with
  | .run         => runStep sclT sdaT s
  | .drain       => .next (drainStep s)
  | .idle | .held => .next s

/-- The mover's action (R155). -/
def moveByte (s : State) : Result :=
  if s.ridx.toNat < s.par.rxCap then
    .next { s with rxb := Memory.put s.rxb s.ridx.toNat s.rxd, ridx := s.ridx + 1, rxv := false }
  else .fault .noSuchByte

/-- `mover_step` (R155); where it is not enabled nothing happens (log entry 1). -/
def moverStep (s : State) : Result := if s.rxv = true then moveByte s else .next s

end Sys2Proof.Machine
end

