-- ==== Sys2Proof/WellFormed.lean ====
section
/-! DEFINITION. When an assembler line spells a command: the right number of operands, each fitting its field
(spec/30_encoding.md R125: "An operand that does not fit its field is an assembly error, not a word"; widths R119). A term of
`Instr` has its operands at the fields' widths already, so the check refuses lines, and `Instr.wellFormed` asks it of the
command's own line. -/

namespace Sys2Proof

/-- The widths of a command's operand fields, in the order of the syntax of R125 (R119). -/
def Mnemonic.widths : Mnemonic → List Nat
  | .INIT => [8, 8, 2]
  | .FRST => []
  | .SUBMIT_W | .SUBMIT_WN | .SUBMIT_R | .SUBMIT_RN => [7, 8]
  | .WAIT | .STMO => [24]
  | .WREG | .WBLK | .RBLK | .STB => [8, 8]
  | .LDB | .RDST => [8]

/-- Each operand fits its field, and there are as many operands as fields. -/
def operandsFit : List Nat → List Nat → Bool
  | [], []           => true
  | w :: ws, n :: ns => decide (n < 2 ^ w) && operandsFit ws ns
  | _, _             => false

/-- The line spells a command (R125). -/
def AsmLine.wellFormed (l : AsmLine) : Bool := operandsFit l.mnemonic.widths l.operands

/-- The command's own assembler line passes the check. -/
def Instr.wellFormed (i : Instr) : Bool := i.asm.wellFormed

/-- The command a line spells; `none` is the assembly error of R125. -/
def AsmLine.assemble (l : AsmLine) : Option Instr :=
  if l.wellFormed then
    match l.mnemonic, l.operands with
    | .INIT, [scl, sda, f]  => some (.init (.ofNat 8 scl) (.ofNat 8 sda) (.ofNat 2 f))
    | .FRST, []             => some .frst
    | .SUBMIT_W, [a, n]     => some (.submitW (.ofNat 7 a) (.ofNat 8 n))
    | .SUBMIT_WN, [a, n]    => some (.submitWN (.ofNat 7 a) (.ofNat 8 n))
    | .SUBMIT_R, [a, n]     => some (.submitR (.ofNat 7 a) (.ofNat 8 n))
    | .SUBMIT_RN, [a, n]    => some (.submitRN (.ofNat 7 a) (.ofNat 8 n))
    | .WAIT, [b]            => some (.wait (.ofNat 24 b))
    | .WREG, [r, v]         => some (.wreg (.ofNat 8 r) (.ofNat 8 v))
    | .WBLK, [r, n]         => some (.wblk (.ofNat 8 r) (.ofNat 8 n))
    | .RBLK, [r, n]         => some (.rblk (.ofNat 8 r) (.ofNat 8 n))
    | .STB, [i, b]          => some (.stb (.ofNat 8 i) (.ofNat 8 b))
    | .LDB, [i]             => some (.ldb (.ofNat 8 i))
    | .STMO, [b]            => some (.stmo (.ofNat 24 b))
    | .RDST, [s]            => some (.rdst (.ofNat 8 s))
    | _, _                  => none
  else none

end Sys2Proof
end

