-- ==== Sys2Proof/Decode.lean ====
section
/-! DEFINITION. The decoder, total on every 32-bit word and rejecting by name (spec/30_encoding.md R110 to R116, R120 to R124), the
encoder written from the same formats, and the opcode map of R116 as a table of match and mask. -/

namespace Sys2Proof

/-- Why a word spells no command (R124). -/
inductive IllegalWord where
  /-- The opcode is none of `0x1` to `0xB` (R120). -/
  | reservedOpcode
  /-- The opcode is assigned but reserved bits are set (R121). -/
  | reservedBits
  deriving DecidableEq, Repr

/-- `w[hi:lo]` as an `n`-bit value, `n = hi - lo + 1` (R16). -/
def slice (w : Word) (lo n : Nat) : BitVec n := w.extractLsb' lo n

/-- The opcode, bits 31:28 (R110). -/
def opcode (w : Word) : BitVec 4 := slice w 28 4

/-- The command if the reserved bits are zero, the rejection of R121 otherwise. -/
def ifClear (clear : Bool) (i : Instr) : Except IllegalWord Instr :=
  if clear then .ok i else .error .reservedBits

/-- Format Z: bits 27:0 reserved (R111). -/
def decodeZ (w : Word) (i : Instr) : Except IllegalWord Instr :=
  ifClear (slice w 0 28 == 0) i

/-- Format AB: bits 27:16 reserved, operands in bits 15:8 and 7:0 (R112). -/
def decodeAB (w : Word) (mk : Byte → Byte → Instr) : Except IllegalWord Instr :=
  ifClear (slice w 16 12 == 0) (mk (slice w 8 8) (slice w 0 8))

/-- Format AB of `LDB` and `RDST`: bits 7:0 reserved too (R112, R121). -/
def decodeA (w : Word) (mk : Byte → Instr) : Except IllegalWord Instr :=
  ifClear (slice w 16 12 == 0 && slice w 0 8 == 0) (mk (slice w 8 8))

/-- Format T: bits 27:24 reserved, 24-bit immediate (R113). -/
def decodeT (w : Word) (mk : Imm24 → Instr) : Except IllegalWord Instr :=
  ifClear (slice w 24 4 == 0) (mk (slice w 0 24))

/-- Format I: bits 27:18 reserved (R115). -/
def decodeI (w : Word) : Except IllegalWord Instr :=
  ifClear (slice w 18 10 == 0) (.init (slice w 8 8) (slice w 0 8) (slice w 16 2))

/-- The four forms of `SUBMIT`, by `dir` (bit 27) and `nostop` (bit 26) (R114). -/
def submitForm (dir nostop : BitVec 1) : BusAddr → Byte → Instr :=
  if dir = 0 then (if nostop = 0 then .submitW else .submitWN)
  else (if nostop = 0 then .submitR else .submitRN)

/-- Format S: bits 25:23 and 15:8 reserved (R114). -/
def decodeS (w : Word) : Except IllegalWord Instr :=
  ifClear (slice w 23 3 == 0 && slice w 8 8 == 0)
    (submitForm (slice w 27 1) (slice w 26 1) (slice w 16 7) (slice w 0 8))

/-- Decoding depends on the word alone (R123) and answers for every word (R124). -/
def decode (w : Word) : Except IllegalWord Instr :=
  match (opcode w).toNat with
  | 0x1 => decodeI w
  | 0x2 => decodeZ w .frst
  | 0x3 => decodeS w
  | 0x4 => decodeT w .wait
  | 0x5 => decodeAB w .wreg
  | 0x6 => decodeAB w .wblk
  | 0x7 => decodeAB w .rblk
  | 0x8 => decodeAB w .stb
  | 0x9 => decodeA w .ldb
  | 0xA => decodeT w .stmo
  | 0xB => decodeA w .rdst
  | _   => .error .reservedOpcode

/-- Format AB as a word (R112). -/
def wordAB (op : BitVec 4) (a b : Byte) : Word := op ++ (0 : BitVec 12) ++ a ++ b

/-- Format T as a word (R113). -/
def wordT (op : BitVec 4) (imm : Imm24) : Word := op ++ (0 : BitVec 4) ++ imm

/-- Format S as a word (R114). -/
def wordS (dir nostop : BitVec 1) (addr : BusAddr) (len : Byte) : Word :=
  (0x3 : BitVec 4) ++ dir ++ nostop ++ (0 : BitVec 3) ++ addr ++ (0 : BitVec 8) ++ len

/-- The word of a command (R111 to R116, R125). -/
def encode : Instr → Word
  | .init scl sda f => (0x1 : BitVec 4) ++ (0 : BitVec 10) ++ f ++ scl ++ sda
  | .frst           => (0x2 : BitVec 4) ++ (0 : BitVec 28)
  | .submitW a n    => wordS 0 0 a n
  | .submitWN a n   => wordS 0 1 a n
  | .submitR a n    => wordS 1 0 a n
  | .submitRN a n   => wordS 1 1 a n
  | .wait b         => wordT 0x4 b
  | .wreg r v       => wordAB 0x5 r v
  | .wblk r n       => wordAB 0x6 r n
  | .rblk r n       => wordAB 0x7 r n
  | .stb i b        => wordAB 0x8 i b
  | .ldb i          => wordAB 0x9 i 0
  | .stmo b         => wordT 0xA b
  | .rdst s         => wordAB 0xB s 0

/-- One row of the opcode map: `w` spells the row's command if and only if `w AND mask = match` (R116). -/
structure OpcodeRow where
  mnemonic : Mnemonic
  matchBits : Word
  mask : Word
  deriving DecidableEq, Repr

/-- `w AND mask = match` (R116). -/
def OpcodeRow.spells (r : OpcodeRow) (w : Word) : Prop := w &&& r.mask = r.matchBits

/-- The rows of R116 in its order. -/
def opcodeMap : List OpcodeRow :=
  [ ⟨.INIT,      0x10000000, 0xFFFC0000⟩,
    ⟨.FRST,      0x20000000, 0xFFFFFFFF⟩,
    ⟨.SUBMIT_W,  0x30000000, 0xFF80FF00⟩,
    ⟨.SUBMIT_WN, 0x34000000, 0xFF80FF00⟩,
    ⟨.SUBMIT_R,  0x38000000, 0xFF80FF00⟩,
    ⟨.SUBMIT_RN, 0x3C000000, 0xFF80FF00⟩,
    ⟨.WAIT,      0x40000000, 0xFF000000⟩,
    ⟨.WREG,      0x50000000, 0xFFFF0000⟩,
    ⟨.WBLK,      0x60000000, 0xFFFF0000⟩,
    ⟨.RBLK,      0x70000000, 0xFFFF0000⟩,
    ⟨.STB,       0x80000000, 0xFFFF0000⟩,
    ⟨.LDB,       0x90000000, 0xFFFF00FF⟩,
    ⟨.STMO,      0xA0000000, 0xFF000000⟩,
    ⟨.RDST,      0xB0000000, 0xFFFF00FF⟩ ]

/-- The row of a mnemonic in the opcode map. -/
def OpcodeRow.isFor (m : Mnemonic) (r : OpcodeRow) : Prop := r ∈ opcodeMap ∧ r.mnemonic = m

/-- The 32-bit word whose low `nbits` bits are `w` (a command is one word, R110). -/
def tableWord (nbits w : Nat) : Word := BitVec.ofNat 32 (w % 2 ^ nbits)

/-- What the decoder reads from an opcode-table word. -/
def decodeTableWord (nbits w : Nat) : Option Instr :=
  match decode (tableWord nbits w) with
  | .ok i    => some i
  | .error _ => none

end Sys2Proof
end

