-- ==== Sys2Proof/Machine/HostSide.lean ====
section
/-! DEFINITION. The host's side of the port: the pseudo-commands `INITSENSOR` and `RDAXIS` as the words they present and what they do
with the responses, and the decode of an axis sample (spec/46_host_sequences.md R275 to R287). -/

namespace Sys2Proof.Machine

/-- The code field of a response (R117). -/
def respCode (r : Word) : BitVec 4 := slice r 0 4

/-- The reject cause of a response (R117). -/
def respRej (r : Word) : BitVec 4 := slice r 4 4

/-- `data[7:0]` of a response (R117, R118). -/
def respByte (r : Word) : Byte := slice r 8 8

/-- `sext_16({hi, lo})` (R17, R283). -/
def bigEndian16 (hi lo : Byte) : Int := (hi ++ lo : BitVec 16).toInt

/-- `decode(b)` of six bytes; none for any other number of bytes (R283). -/
def axisSample : List Byte → Option HostResult
  | [b0, b1, b2, b3, b4, b5] => some (.sample (bigEndian16 b0 b1) (bigEndian16 b2 b3) (bigEndian16 b4 b5))
  | _ => none

/-- A job just begun. -/
def jobOf : Pseudo → HostJob
  | .initSensor scl sda f => .initSensor .init scl sda f
  | .rdAxis               => .readBlock

/-- The command a job presents next (R277, R282). -/
def jobInstr (p : Params) : HostJob → Instr
  | .initSensor .init scl sda f        => .init scl sda f
  | .initSensor .resetCommand _ _ _    => .wreg p.sprReg p.sprVal
  | .initSensor .powerManagement _ _ _ => .wreg p.pwrReg p.pwrVal
  | .initSensor (.store i) _ _ _       => .stb (BitVec.ofNat 8 (1 + i)) (p.cfgData.getD i 0)
  | .initSensor .configBlock _ _ _     => .wblk p.cfgBase (BitVec.ofNat 8 p.cfgLen)
  | .readBlock                         => .rblk accelBase 6
  | .loadBytes got                     => .ldb (BitVec.ofNat 8 got.length)

/-- `log(op, r)` (R275, R277). -/
def logFailure (op : HostOp) (r : Word) (s : State) : State :=
  if respCode r = 0 then s else { s with hostLog := s.hostLog ++ [⟨op, respCode r, respRej r⟩] }

/-- The job ends with a result. -/
def jobDone (v : HostResult) (s : State) : State := { s with job := none, hostResult := some v }

/-- `INITSENSOR` reads the response of the command it presented (R277). -/
def initSensorReceive (pt : InitPoint) (scl sda : Byte) (f : FreqCode) (r : Word) (s : State) : State :=
  let goTo (next : InitPoint) (s : State) : State := { s with job := some (.initSensor next scl sda f) }
  match pt with
  | .init =>
    if respCode r = 0 then goTo .resetCommand s else jobDone .initFailed (logFailure .init r s)
  | .resetCommand    => goTo .powerManagement (logFailure .resetCommand r s)
  | .powerManagement => goTo (.store 0) (logFailure .powerManagement r s)
  | .store i         => if i + 1 < s.par.cfgLen then goTo (.store (i + 1)) s else goTo .configBlock s
  | .configBlock     => jobDone .initOk (logFailure .configBlock r s)

/-- `RDAXIS` has got one more byte (R282). -/
def bytesReceive (got : List Byte) (s : State) : State :=
  match axisSample got with
  | some v => jobDone v s
  | none   => { s with job := some (.loadBytes got) }

/-- The job reads a response (R275, R277, R282). -/
def jobReceive (j : HostJob) (r : Word) (s : State) : State :=
  match j with
  | .initSensor pt scl sda f => initSensorReceive pt scl sda f r s
  | .readBlock     =>
    if respCode r = 0 then { s with job := some (.loadBytes []) } else jobDone (.axisError (respCode r)) s
  | .loadBytes got => bytesReceive (got ++ [respByte r]) s

/-- The host reads the response this step produced; outside a pseudo-command it only takes note of it (R275). -/
def hostReceive (s : State) : State :=
  match s.rsp, s.job with
  | some r, some j => jobReceive j r s
  | _, _           => s

/-- A pseudo-command begins (R275). -/
def beginJob (c : Pseudo) (rest : List HostItem) (s : State) : State :=
  { s with prog := rest, job := some (jobOf c), hostResult := none }

/-- The word the host presents next, with the state in which it does so: the next of its pseudo-command, or of its program; none when it
has nothing to present (R60, R275). -/
def nextWord (s : State) : Option (Word × State) :=
  match s.job with
  | some j => some (encode (jobInstr s.par j), s)
  | none   =>
    match s.prog with
    | []               => none
    | .word w :: rest  => some (w, { s with prog := rest })
    | .call c :: rest  => some (encode (jobInstr s.par (jobOf c)), beginJob c rest s)

end Sys2Proof.Machine
end

