-- ==== Sys2Proof/Machine/Agents.lean ====
section
/-! DEFINITION. The agents' steps and their scheduling: what one move does, what one `clk` edge does, and how a step takes its move
(spec/00_scope.md R15, R18, R19; spec/60_exceptions.md R322; spec/70_reset_and_hazards.md R340, R362, R363). -/

namespace Sys2Proof.Machine

/-- A word taken from the command port: the command it spells, or `Illegal` (R120, R121, R124, R303). -/
def takeWord (w : Word) (s : State) : Result :=
  match decode w with
  | .ok i    => exec i s
  | .error _ => .next (raiseIllegal s)

/-- The host presents its next word, if it has one (R19). -/
def presentNext (s : State) : Result :=
  match nextWord s with
  | some (w, s') => takeWord w s'
  | none         => .next s

/-- `host_cmd`, a step outside reset: enabled when `LOCK = 0`; while `LOCK = 1` the host holds its word (R19, R37). -/
def hostStep (s : State) : Result := if cmdReady true s = true then presentNext s else .next s

/-- `seq_step`: enabled when `LOCK = 1` (R19). -/
def seqAgentStep (s : State) : Result := if s.lock = true then seqStep s else .next s

/-- The outputs take the levels of the phase in progress (R362). -/
def presentPhase (s : State) : State :=
  if s.fes = .run then
    match currentLines s with
    | some lines => drive lines s
    | none       => s
  else s

/-- The engine at one `clk` edge (R362): wait for SCL in an SCL-release phase, else count, else take the `fe_step` of the phase's last
edge and present the next phase. While `FES = DRAIN` it steps at every edge. -/
def feEdge (sclT sdaT : Bool) (s : State) : Result :=
  if s.fes = .run then
    if isRelease s.sym s.phi && !sclT then .next (presentPhase s)
    else if 1 < s.qcnt then .next { presentPhase s with qcnt := s.qcnt - 1 }
    else chain (feStep sclT sdaT s) fun t => .next (presentPhase t)
  else feStep sclT sdaT s

/-- One agent's part of an edge. -/
def whenOn (b : Bool) (f : State → Result) (s : State) : Result := if b = true then f s else .next s

/-- A command is taken on an edge where `cmd_valid` and `cmd_ready` are both 1 (R21). -/
def commandTaken (e : EdgeIn) (s : State) : Bool := e.cmdValid && cmdReady e.rstN s

/-- One edge of `clk`: every agent enabled before the edge takes at most one step, in the order host or seq, fe, mover, cb (R322).
With `rst_n = 0` the block is reset (R340). -/
def clockEdge (e : EdgeIn) (s : State) : Result :=
  if e.rstN = false then .next (resetBlock s)
  else
    chain (if s.lock = true then seqStep s else whenOn (commandTaken e s) presentNext s) fun s1 =>
    chain (whenOn (feEnabled s) (feEdge e.sclT e.sdaT) s1) fun s2 =>
    chain (whenOn (s.rxv && e.moverGo) moveByte s2) fun s3 =>
    .next (if cbEnabled s && e.cbGo then deliverCompletion s3 else s3)

/-- One move (R19). -/
def perform (m : Move) (s : State) : Result :=
  match m with
  | .reset        => .next (resetBlock s)
  | .host         => hostStep s
  | .seq          => seqAgentStep s
  | .fe sclT sdaT => feStep sclT sdaT s
  | .mover        => moverStep s
  | .cb           => .next (cbStep s)
  | .edge e       => clockEdge e s

/-- The move of this step, with the state after it is taken from the agenda: the next listed one, or a free one where none is listed
(R15, R18). -/
def takeMove (s : State) : Move × State :=
  match s.agenda with
  | m :: rest => (m, { s with agenda := rest })
  | []        => (Config.freeMove s.draws, { s with draws := s.draws + 1 })

/-- The response port is empty until this step produces a response (R21: one cycle per response). -/
def clearPort (s : State) : State := { s with rsp := none }

/-- One step of the machine: take the move, perform it, and let the host read the response it produced. -/
def advance (s : State) : Result :=
  chain (perform (takeMove s).1 (clearPort (takeMove s).2)) fun t => .next (hostReceive t)

/-- The word stands where the next step takes a command: it is the host's next item, the host moves next, it executes no pseudo-command, and
the port is open. -/
def placeWord (w : Word) (s : State) : State :=
  { s with prog := .word w :: s.prog, agenda := .host :: s.agenda, job := none, lock := false, seq := .idle }

end Sys2Proof.Machine
end

