-- ==== Sys2Proof/Machine/Step.lean ====
section
/-! DEFINITION. One step of the machine, and where a command word is placed so that the next step runs it. -/

namespace Sys2Proof.Machine

/-- One step: one move of one agent (spec/00_scope.md R18, R19). -/
def step (s : State) : Host.Outcome State Fault Refusal := advance s

/-- `s` with the command word stored where the next step takes its command. -/
def State.withFetchWord (s : State) (nbits w : Nat) : State := placeWord (tableWord nbits w) s

end Sys2Proof.Machine
end

