-- ==== Sys2Proof/Machine/FrameLevel.lean ====
section
/-! DEFINITION. The frame level of the spec: what a target that follows the conventions does in each phase, what event a frame ends with, and
what a bus monitor sees (spec/41_bus_transport.md R160; spec/42_wire_protocol.md R173, R191, R194). Nothing here is used by the step:
claims compare the engine with it. -/

namespace Sys2Proof.Machine

/-- Several moves one after another. -/
def runMoves : List Move → State → Result
  | [], s      => .next s
  | m :: ms, s => chain (perform m s) (runMoves ms)

/-- `n` phases in which the target releases both lines (R194). -/
def quiet (n : Nat) : List Move := List.replicate n (.fe true true)

/-- Four phases in which the target holds SDA at `v` and releases SCL: an ACK slot it answers, or a data bit it sends (R194). -/
def heldBit (v : Bool) : List Move := List.replicate 4 (.fe true v)

/-- The phases of START, or of repeated START when the bus is claimed (R173). -/
def startMoves (claimed : Bool) : List Move := quiet (if claimed then 4 else 3)

/-- A byte the master sends, answered with ACK (`false`) or NACK (`true`) (R150, R194). -/
def sentByteMoves (nack : Bool) : List Move := quiet 32 ++ heldBit nack

/-- The data phase of a write frame answered with `dacks`, up to its end: STOP after the first NACK or the last byte, or hold (R152). -/
def writeDataMoves (nostop : Bool) : List Bool → List Move
  | []            => []
  | true :: _     => sentByteMoves true ++ quiet 4
  | [false]       => sentByteMoves false ++ quiet (if nostop then 1 else 4)
  | false :: rest => sentByteMoves false ++ writeDataMoves nostop rest

/-- A whole write frame: the target answers the address byte with `aack` and data byte `i` with `dacks[i]` (R160). -/
def writeFrameMoves (claimed nostop aack : Bool) (dacks : List Bool) : List Move :=
  startMoves claimed ++ sentByteMoves aack ++ (if aack then quiet 4 else writeDataMoves nostop dacks)

/-- The event of a write frame (R160). -/
def writeFrameEvent (aack : Bool) (dacks : List Bool) : Ev :=
  if aack then .addressNack else if dacks.any id then .dataNack else .done

/-- The bits of a byte, most significant first (R87). -/
def msbFirst (b : Byte) : List Bool :=
  [b.getLsbD 7, b.getLsbD 6, b.getLsbD 5, b.getLsbD 4, b.getLsbD 3, b.getLsbD 2, b.getLsbD 1, b.getLsbD 0]

/-- The eight data bits of a byte the target sends (R87, R194). -/
def receivedBits (b : Byte) : List Move := (msbFirst b).flatMap heldBit

/-- A byte the target sends, the mover in time, and the master's ACK slot (R154, R155, R160). -/
def movedByteMoves (b : Byte) : List Move := receivedBits b ++ [.mover] ++ quiet 4

/-- A byte the target sends, the mover not running, and the master's ACK slot (R154, R160). -/
def unmovedByteMoves (b : Byte) : List Move := receivedBits b ++ quiet 4

/-- A whole read frame with the mover in time for every byte (R160). -/
def readFrameMoves (claimed aack : Bool) (rdata : List Byte) : List Move :=
  startMoves claimed ++ sentByteMoves aack ++
    (if aack then [] else rdata.flatMap movedByteMoves) ++ quiet 4

/-- A read frame whose mover is in time for `moved` and late for the byte after them, until the next byte has been received (R160). -/
def lateReadFrameMoves (claimed : Bool) (moved : List Byte) (late lost : Byte) : List Move :=
  startMoves claimed ++ sentByteMoves false ++
    (moved.flatMap movedByteMoves ++ (unmovedByteMoves late ++ unmovedByteMoves lost)) ++ quiet 4

/-- What a bus monitor reports. -/
inductive BusSymbol where
  | start | stop | bit (b : Bool)
  deriving DecidableEq, Repr

/-- The target's drivers in a move. -/
def targetDrivers : Move → Bool × Bool
  | .fe sclT sdaT => (sclT, sdaT)
  | _             => (true, true)

/-- The line levels after each move (R55, R171). -/
def busLevels : List Move → State → List (Bool × Bool)
  | [], _      => []
  | m :: ms, s =>
    match perform m s with
    | .next t => (level t.sclO (targetDrivers m).1, level t.sdaO (targetDrivers m).2) :: busLevels ms t
    | _       => []

/-- A monitor of the two lines: SDA falling while SCL is high is a START, SDA rising while SCL is high is a STOP, and an SCL high time with
neither carries one bit, reported when SCL falls (R174, R178, R187). `before` is the level before the list, `marked` says that the high time in
progress is no bit. -/
def monitor (before : Bool × Bool) (marked : Bool) : List (Bool × Bool) → List BusSymbol
  | [] => []
  | now :: rest =>
    match before.1, now.1 with
    | true, true =>
      match before.2, now.2 with
      | true, false => .start :: monitor now true rest
      | false, true => .stop :: monitor now true rest
      | _, _        => monitor now marked rest
    | true, false => if marked then monitor now false rest else .bit before.2 :: monitor now false rest
    | false, _    => monitor now false rest

/-- A byte and its ACK slot as bus symbols (R87, R150). -/
def byteSymbols (b : Byte) (nack : Bool) : List BusSymbol := (msbFirst b).map .bit ++ [.bit nack]

/-- The bytes of a write frame's data phase with their answers, up to the first NACK, as bus symbols (R152, R160). -/
def dataSymbols : List (Byte × Bool) → List BusSymbol
  | []                 => []
  | (b, true) :: _     => byteSymbols b true
  | (b, false) :: rest => byteSymbols b false ++ dataSymbols rest

end Sys2Proof.Machine
end

