-- ==== Sys2Proof/Machine/Timing.lean ====
section
/-! DEFINITION. The timing the spec gives as formulas (spec/42_wire_protocol.md R172, R191; spec/70_reset_and_hazards.md R364, R365). No rule of
behaviour depends on them. -/

namespace Sys2Proof.Machine

/-- The SCL period in `clk` cycles, without stretching (R11, R172). -/
def sclPeriod (p : Params) (f : FreqCode) : Nat := 4 * p.div f

/-- Phases of a byte with its ACK slot (R191). -/
def bytePhases : Nat := 36

/-- Phases of a frame with `n` data bytes that runs to its end: START or repeated START, `n + 1` bytes, STOP or hold (R191). -/
def framePhases (claimed nostop : Bool) (n : Nat) : Nat :=
  (if claimed then 4 else 3) + bytePhases * (n + 1) + (if nostop then 1 else 4)

/-- `budget = ceil(D * f_clk / POLL_CYCLES)` limited to `2^24 - 1`, for a duration of `num / den` seconds (R364). -/
def budgetFor (num den fclk : Nat) : Imm24 :=
  BitVec.ofNat 24 (min ((num * fclk + den * pollCycles - 1) / (den * pollCycles)) (2 ^ 24 - 1))

/-- The least budget that cannot time out on a healthy frame of `phases` phases of `q` cycles, with `x` cycles of stretching, the mover `m` and
the completion unit `i` cycles late: the budgets above this number (R364). -/
def budgetAbove (phases q x m i : Nat) : Nat := (phases * q + x + m + i) / pollCycles + 1

/-- `f_SCL = f_clk / (4 * Q)`, without stretching, an exact quotient (R172, R365). -/
def sclFrequency (fclk : ℚ) (p : Params) (f : FreqCode) : ℚ := fclk / sclPeriod p f

/-- The part of the SCL period in which SCL is high: the duty cycle (R172, R365). -/
def sclDuty (p : Params) (f : FreqCode) : ℚ := (2 * p.div f : Nat) / sclPeriod p f

/-- START hold, from SDA low to SCL low, in `clk` cycles (R365). -/
def startHold (p : Params) (f : FreqCode) : Nat := p.div f

/-- STOP set-up, from SCL high to SDA high, in `clk` cycles, without stretching (R365). -/
def stopSetup (p : Params) (f : FreqCode) : Nat := p.div f

/-- The least bus free time between a STOP and the next START, in `clk` cycles: phase 3 of `P` and phase 0 of `S` (R365). -/
def busFree (p : Params) (f : FreqCode) : Nat := 2 * p.div f

end Sys2Proof.Machine
end

