-- ==== Sys2Proof/Safety.lean ====
section
/-! DEFINITION. What counts as a safe state: the invariants the spec states (R36, R40, R51, R52) with what they rest on, and the states a
run can reach. Claims are stated in these terms. -/

namespace Sys2Proof.Machine

/-- The lifecycle, the three enabling bits (R36), and what cannot happen before `Ready` (R35, R170, R291, R293). -/
structure LifecycleOk (s : State) : Prop where
  ready_iff_enabled : s.lc = .ready ↔ s.en = true
  interrupt_with_enable : s.ien = s.en
  handler_with_enable : s.hreg = s.en
  quiet_before_ready : s.lc ≠ .ready → s.fes = .idle ∧ s.cflag = false

/-- The arbiter bits, flag and pending event (R40 (a) to (d), R41, R44, R145). -/
structure ArbiterOk (s : State) : Prop where
  armed_quiet : s.armed = true → s.busy = false ∧ s.cflag = false ∧ s.evtp = .none
  idle_quiet : s.busy = false → (s.fes = .idle ∨ s.fes = .held) ∧ s.evtp = .none ∧ s.rxv = false
  pending_over : s.evtp ≠ .none → s.busy = true ∧ (s.fes = .idle ∨ s.fes = .held) ∧ s.rxv = false
  busy_ready : s.busy = true → s.lc = .ready
  busy_running : s.busy = true → s.evtp = .none → s.fes = .run ∨ s.fes = .drain
  flag_delivered : s.cflag = true → s.busy = false ∧ s.evt ≠ .none

/-- A frame is on the wire or draining (R51). -/
abbrev inFlight (s : State) : Prop := s.fes = .run ∨ s.fes = .drain

/-- How many bytes of a read frame can have left the engine at this point (R154, R155, R248 (d)). -/
def receivedBound (s : State) : Nat :=
  if s.fes = .drain then s.idx.toNat + 1
  else match s.sym with
    | .s | .sr | .txa | .acka => 0
    | .rxbit                  => s.idx.toNat
    | _                       => s.idx.toNat + 1

/-- The lines before a phase: those of the phase before it, or its own where they are out already (R173, R180, R362). -/
def linesBefore (s : State) : Prop :=
  if s.phi = 0 then
    match s.sym with
    | .s  => s.sclO = true ∧ s.sdaO = true
    | .sr => s.sclO = false ∧ s.sdaO = true
    | _   => s.sclO = false
  else
    some (s.sclO, s.sdaO) = phaseLines s.sym (sentBit s) s.phi
      ∨ some (s.sclO, s.sdaO) = phaseLines s.sym (sentBit s) (s.phi - 1)

/-- The lines of the phase in progress are out already, as the clocked engine has them at every edge (R362; log entry 10). -/
def linesOut (s : State) : Prop := s.fes = .run → phaseLines s.sym (sentBit s) s.phi = some (s.sclO, s.sdaO)

/-- The error classified so far fits the symbol and the direction (R151, R152, R154, R161). -/
def errorFits (s : State) : Prop :=
  match s.errc with
  | .none        => True
  | .addressNack => s.sym = .p
  | .dataNack    => s.sym = .p ∧ s.dir = false
  | .overrun     => (s.sym = .mack ∨ s.sym = .p) ∧ s.dir = true
  | _            => False

/-- The frame in progress, what it has received, and the lines (R49 to R55, R81, R97, R158, R161, R170, R248). -/
structure FrameOk (s : State) : Prop where
  len_fits : s.busy = true → 0 < s.len.toNat ∧ s.len.toNat ≤ frameCap s.par s.dir
  form_ok : s.busy = true → s.dir = true → s.nostop = false
  index_fits : inFlight s → s.idx.toNat < s.len.toNat
  phase_exists : s.fes = .run → s.phi.val < s.sym.phases
  write_symbols : s.fes = .run → s.sym = .txd ∨ s.sym = .ackd ∨ s.sym = .h → s.dir = false
  read_symbols : s.fes = .run → s.sym = .rxbit ∨ s.sym = .mack → s.dir = true
  hold_only_nostop : s.fes = .run → s.sym = .h → s.nostop = true
  stop_when_clean : s.fes = .run → s.sym = .p → s.errc = .none → s.nostop = false
  drain_is_read : s.fes = .drain → s.dir = true ∧ s.errc = .none
  error_fits : s.fes = .run → errorFits s
  overrun_is_read : s.evtp = .overrun → s.dir = true
  data_nack_is_write : s.evtp = .dataNack → s.dir = false
  done_holds_iff : s.evtp = .done → (s.nostop = true ↔ s.fes = .held)
  write_receives_nothing : s.busy = true → s.dir = false → s.rxv = false
  moved_in_order : inFlight s → s.dir = true → s.ridx.toNat + s.rxv.toNat ≤ receivedBound s
  none_lost : inFlight s → s.dir = true → s.errc = .none → s.ridx.toNat + s.rxv.toNat = receivedBound s
  stop_after_last : s.fes = .run → s.sym = .p → s.errc = .none → s.idx.toNat + 1 = s.len.toNat
  drain_after_last : s.fes = .drain → s.idx.toNat + 1 = s.len.toNat
  done_has_all : s.evtp = .done → s.dir = true → s.ridx = s.len
  delivered_has_all : s.busy = false → s.evt = .done → s.dir = true → s.ridx = s.len
  held_claimed : s.fes = .held → s.claimed = true ∧ s.sclO = false ∧ s.sdaO = true
  released_unclaimed : s.fes = .idle ∨ s.fes = .drain → s.claimed = false ∧ s.sclO = true ∧ s.sdaO = true
  start_unclaimed : s.fes = .run → s.sym = .s → s.claimed = false
  restart_claimed : s.fes = .run → s.sym = .sr → s.claimed = true
  lines_before : s.fes = .run → linesBefore s
  phase_count : s.fes = .run → 1 ≤ s.qcnt ∧ s.qcnt ≤ phaseCycles s

/-- A primitive is waiting for a frame of its own. -/
abbrev primWaits (s : State) : Prop := s.seq = .primW ∨ s.seq = .rb1W ∨ s.seq = .rb2W

/-- The sequencer and the frame it waits for (R52, R213, R231, R241, R242, R302). -/
structure SequencerOk (s : State) : Prop where
  lock_iff : s.lock = true ↔ s.seq ≠ .idle
  counting : s.seq = .waitW ∨ primWaits s → s.tcnt ≠ 0
  prim_ready : primWaits s ∨ s.seq = .rb2L → s.lc = .ready ∧ s.tbudget ≠ 0
  rlen_fits : s.seq = .rb1W ∨ s.seq = .rb2L ∨ s.seq = .rb2W → 0 < s.rlen.toNat ∧ s.rlen.toNat ≤ s.par.dataCap
  own_frame : primWaits s → s.busy = true ∨ s.cflag = true
  phase_one_frame : s.seq = .rb1W → s.busy = true → s.dir = false ∧ s.nostop = true
  phase_one_held : s.seq = .rb1W → s.busy = false → s.evt = .done → s.fes = .held
  phase_two_ready : s.seq = .rb2L → s.busy = false ∧ s.fes = .held
  write_phase_frame : s.seq = .primW ∨ s.seq = .rb1W → s.busy = true → s.dir = false
  write_phase_event : s.seq = .primW ∨ s.seq = .rb1W → s.busy = false → s.evt ≠ .overrun
  read_phase_frame : s.seq = .rb2W → s.busy = true → s.dir = true
  read_phase_event : s.seq = .rb2W → s.busy = false → s.evt ≠ .dataNack

/-- The buffers are canonical and lie in their capacities (R80, R81). -/
structure BuffersOk (s : State) : Prop where
  txb_wf : Memory.wf s.txb
  txb_within : Memory.within s.txb s.par.txCap
  rxb_wf : Memory.wf s.rxb
  rxb_within : Memory.within s.rxb s.par.rxCap

/-- The pseudo-command in execution is at one of its points (R277, R282). -/
def jobOk (s : State) : Prop :=
  match s.job with
  | some (.initSensor (.store i) _ _ _) => i < s.par.cfgLen
  | some (.loadBytes got)               => got.length < 6
  | _                                   => True

/-- The invariant every step keeps. -/
structure Inv (s : State) : Prop where
  lifecycle : LifecycleOk s
  arbiter : ArbiterOk s
  frame : FrameOk s
  sequencer : SequencerOk s
  buffers : BuffersOk s
  job : jobOk s

/-- The most `seq_step`s the command in execution can still take (R249). -/
def stepsLeft (s : State) : Nat :=
  match s.seq with
  | .idle                  => 0
  | .waitW | .primW | .rb2W => s.tcnt.toNat
  | .rb1W                  => s.tcnt.toNat + s.tbudget.toNat + 1
  | .rb2L                  => s.tbudget.toNat + 1

/-- Moves in which the sequencer steps when `LOCK = 1` (R19, R322). -/
def stepsSequencer : Move → Bool
  | .seq    => true
  | .edge e => e.rstN
  | _       => false

/-- Moves that are a reset (R340). -/
def isReset : Move → Bool
  | .reset  => true
  | .edge e => !e.rstN
  | _       => false

/-- The result codes of a write primitive (R302). -/
def writeCodes : List Code := [.success, .submissionRejected, .addressNack, .dataNack, .busError, .timeout]

/-- The result codes of `RBLK` (R302). -/
def readCodes : List Code := [.success, .submissionRejected, .addressNack, .dataNack, .overrun, .busError, .timeout]

/-- Which command can return which result code (R302). -/
def codesOf : Instr → List Code
  | .init _ _ _ => [.success, .initFailed]
  | .frst | .stmo _ => [.success]
  | .submitW _ _ | .submitWN _ _ | .submitR _ _ | .submitRN _ _ => [.success, .submissionRejected]
  | .wait _ => [.success, .timeout]
  | .wreg _ _ | .wblk _ _ => writeCodes
  | .rblk _ _ => readCodes
  | .stb _ _ | .ldb _ | .rdst _ => [.success, .illegal]

/-- Which reject causes a command can report (R141, R302). -/
def causesOf : Instr → List Rej
  | .submitW _ _ | .submitWN _ _ | .submitR _ _ => [.notReady, .busy, .notArmed, .badLength]
  | .submitRN _ _ => [.notReady, .busy, .notArmed, .badForm]
  | .wreg _ _ => [.notReady, .busy]
  | .wblk _ _ | .rblk _ _ => [.notReady, .busy, .badLength]
  | _ => []

/-- Which result code a command can return at a control point of the sequencer (R302). -/
def codesAt : SeqPoint → List Code
  | .idle => []
  | .waitW => [.success, .timeout]
  | .primW => writeCodes
  | .rb1W | .rb2L | .rb2W => readCodes

/-- The block after reset, with any parameters, any host program and any moves of the environment to come (R15, R60, R340). -/
def boot (p : Params) (prog : List HostItem) (agenda : List Move) (draws : Nat) : State :=
  { State.resetOf p with prog := prog, agenda := agenda, draws := draws }

/-- The states a run from reset reaches, under every parameter set, program and schedule. -/
inductive Reachable : State → Prop where
  | boot (p : Params) (prog : List HostItem) (agenda : List Move) (draws : Nat) : Reachable (boot p prog agenda draws)
  | step {s t : State} (hs : Reachable s) (h : step s = .next t) : Reachable t

end Sys2Proof.Machine
end

