-- ==== Sys2Proof/Certificates/Slice0/Obligations.lean ====
section
/-! DEFINITION. The statements for the provers, one `def Obligations.<Name> : Prop` each. A statement about one command gives the whole next
state as an update of the state before, so that it is the command's result and its frame at once. -/

open Sys2Proof Sys2Proof.Machine

/-! ## Parameters and reset -/

/-- R8 to R13, log entry 2: every value of `Params` is a legal parameter set, and every legal parameter set is a value of `Params`. -/
def Obligations.ParametersAreExactlyTheLegalOnes : Prop :=
  (∀ p : Params,
    6 ≤ p.dataCap ∧ p.dataCap ≤ 254 ∧ p.txCap = p.dataCap + 1 ∧ p.rxCap = p.dataCap ∧ (∀ f, 0 < p.div f)
      ∧ 1 ≤ p.cfgLen ∧ p.cfgLen ≤ p.dataCap) ∧
  ∀ (cap : Nat) (addr : BusAddr) (tmo : Imm24) (div : FreqCode → Nat) (ok : Byte → Byte → FreqCode → Bool) (cfg : List Byte),
    6 ≤ cap → cap ≤ 254 → (∀ f, 0 < div f) → 1 ≤ cfg.length → cfg.length ≤ cap →
    ∃ p : Params, p.dataCap = cap ∧ p.targetAddr = addr ∧ p.tmoDefault = tmo ∧ p.div = div ∧ p.initOk = ok ∧ p.cfgData = cfg

/-- R64, R341: every piece of the block's state at reset, and that the block does nothing until the first command. The values of the host's
side (`job`, `hostResult`, `hostLog`, `rsp`) and of the draw counter are the model's (log entries 13, 15, 18) and are not stated. -/
def Obligations.ResetLeavesTheStatedValues : Prop :=
  ∀ (p : Params) (prog : List HostItem) (agenda : List Move) (draws : Nat) (s : State), s = boot p prog agenda draws →
    s.lc = .uninit ∧ s.sclpin = 0 ∧ s.sdapin = 0 ∧ s.freq = 0 ∧ s.hreg = false ∧ s.ien = false ∧ s.en = false ∧ irq s = false
    ∧ s.lock = false ∧ cmdReady true s = true ∧ s.armed = false ∧ s.busy = false ∧ s.cflag = false
    ∧ s.tbudget = p.tmoDefault ∧ s.tcnt = 0 ∧ s.evt = .none ∧ s.evtp = .none ∧ s.res = .success ∧ s.rej = .none
    ∧ s.seq = .idle ∧ s.rlen = 0 ∧ s.fes = .idle ∧ s.sym = .s ∧ s.phi = 0 ∧ s.claimed = false
    ∧ s.dir = false ∧ s.nostop = false ∧ s.addr = 0 ∧ s.len = 0 ∧ s.idx = 0 ∧ s.bitc = 0 ∧ s.shift = 0 ∧ s.samp = false
    ∧ s.errc = .none ∧ s.rxd = 0 ∧ s.rxv = false ∧ s.ridx = 0 ∧ s.sclO = true ∧ s.sdaO = true ∧ s.qcnt = 0
    ∧ (∀ i, Memory.get s.txb i = none) ∧ (∀ i, Memory.get s.rxb i = none)
    ∧ ∀ m ∈ [Move.seq, .mover, .cb, .fe false false, .fe false true, .fe true false, .fe true true], perform m s = .next s

/-- R340: reset at any time, as a step of its own and as a `clk` edge with `rst_n = 0`: the block's reset state, `cmd_ready = 0`, no command taken, no
response, the command in progress dropped; from the first edge with `rst_n = 1` on, commands are taken; and no command is a reset. That the
host's program, result and log, the coming moves and the draw counter are kept is the model's choice (log entry 11); what becomes of the
host's pseudo-command is left open here. -/
def Obligations.ResetMayHappenAtAnyTime : Prop :=
  (∀ (s : State) (e : EdgeIn), e.rstN = false → ∀ m ∈ [Move.reset, .edge e],
    ∃ j, perform m s = .next { boot s.par s.prog s.agenda s.draws with
      job := j, hostResult := s.hostResult, hostLog := s.hostLog }) ∧
  (∀ s : State, cmdReady false s = false) ∧
  (∀ (p : Params) (w : Word) (items : List HostItem) (agenda : List Move) (draws : Nat) (e : EdgeIn), e.rstN = true → e.cmdValid = true →
    ∃ t, perform (.edge e) (boot p (.word w :: items) agenda draws) = .next t ∧ t.prog = items ∧ (t.rsp ≠ none ∨ t.lock = true)) ∧
  ∀ (i : Instr) (s t : State), s.lc ≠ .uninit → exec i s = .next t → t.lc = s.lc

/-! ## Steps and decoding -/

/-- R18, R19, R21, R37: a step performs the next listed move. When it is the host's turn, the port is open and the word decodes to `i`, the step
is `exec i` of the state with the word taken from the program; with a pseudo-command in execution it is `exec` of the command that presents, and
the response goes to it; a pseudo-command that is the program's next item begins by presenting its first command (R275, R277, R282).
`withFetchWord` puts a word there. How the model schedules this is its own: the list of moves (log entry 1), the host reading a response in the step
that gives it and the fields its sequence is held in (log entry 13), `withFetchWord` (log entry 12), the port cleared at each step (log entry 15). -/
def Obligations.AStepRunsTheDecodedCommand : Prop :=
  (∀ (s : State) (m : Move) (later : List Move), s.agenda = m :: later →
    ∀ t, perform m { s with agenda := later, rsp := none } = .next t → step s = .next (hostReceive t)) ∧
  (∀ (s : State) (w : Word) (i : Instr) (items : List HostItem) (later : List Move),
    s.agenda = .host :: later → s.prog = .word w :: items → s.job = none → s.lock = false → decode w = .ok i →
    ∃ t, exec i { s with agenda := later, prog := items, rsp := none } = .next t ∧ step s = .next t) ∧
  (∀ (s : State) (j : HostJob) (later : List Move),
    s.agenda = .host :: later → s.job = some j → s.lock = false →
    ∃ t, exec (jobInstr s.par j) { s with agenda := later, rsp := none } = .next t ∧ step s = .next (hostReceive t)) ∧
  (∀ (s : State) (c : Pseudo) (j : HostJob) (i : Instr) (items : List HostItem) (later : List Move),
    ((c, j, i) = (.rdAxis, .readBlock, .rblk 0x3B 6)
      ∨ ∃ scl sda f, (c, j, i) = (.initSensor scl sda f, .initSensor .init scl sda f, .init scl sda f)) →
    s.agenda = .host :: later → s.prog = .call c :: items → s.job = none → s.lock = false →
    ∃ t, exec i { s with agenda := later, prog := items, job := some j, hostResult := none, rsp := none } = .next t
      ∧ step s = .next (hostReceive t)) ∧
  ∀ (s : State) (nbits w : Nat) (i : Instr), decodeTableWord nbits w = some i →
    ∃ t, exec i { s with job := none, lock := false, seq := .idle, rsp := none } = .next t ∧ step (s.withFetchWord nbits w) = .next t

/-- R120, R121, R303: a word with a reserved opcode, or with a reserved bit set, is answered `0x0000000F` and changes nothing but `RES` and
`REJ`; the all-zero word is one. Standing next in the program it is taken by the host's move: it does not stall. -/
def Obligations.IllegalWordsAreAnsweredAndChangeNothingElse : Prop :=
  ∀ (w : Word) (s : State),
    ((w.extractLsb' 28 4).toNat ∈ [0x0, 0xC, 0xD, 0xE, 0xF]
      ∨ ∃ r ∈ [((0x1, 0x0FFC0000) : Nat × Word), (0x2, 0x0FFFFFFF), (0x3, 0x0380FF00), (0x4, 0x0F000000), (0x5, 0x0FFF0000),
          (0x6, 0x0FFF0000), (0x7, 0x0FFF0000), (0x8, 0x0FFF0000), (0x9, 0x0FFF00FF), (0xA, 0x0F000000), (0xB, 0x0FFF00FF)],
          (w.extractLsb' 28 4).toNat = r.1 ∧ w &&& r.2 ≠ 0) →
    takeWord w s = .next { s with res := .illegal, rej := .none, rsp := some 0x0000000F } ∧
    ∀ items, s.prog = .word w :: items → s.job = none → s.lock = false →
      perform .host s = .next { s with prog := items, res := .illegal, rej := .none, rsp := some 0x0000000F }

/-- R116, R125: words written out from the formats and the examples of the spec, one or more for each mnemonic, and two illegal ones. -/
def Obligations.SpecWordsDecodeToTheirCommands : Prop :=
  decode 0x1001090A = .ok (.init 9 10 1) ∧ decode 0x20000000 = .ok .frst ∧ decode 0x30680002 = .ok (.submitW 0x68 2)
  ∧ decode 0x34680001 = .ok (.submitWN 0x68 1) ∧ decode 0x38680006 = .ok (.submitR 0x68 6) ∧ decode 0x3C680006 = .ok (.submitRN 0x68 6)
  ∧ decode 0x40000005 = .ok (.wait 5) ∧ decode 0x50006B00 = .ok (.wreg 0x6B 0) ∧ decode 0x60001904 = .ok (.wblk 0x19 4)
  ∧ decode 0x70003B06 = .ok (.rblk 0x3B 6) ∧ decode 0x80000107 = .ok (.stb 1 7) ∧ decode 0x90000400 = .ok (.ldb 4)
  ∧ decode 0xA00186A0 = .ok (.stmo 100000) ∧ decode 0xB0000000 = .ok (.rdst 0)
  ∧ decode 0x00000000 = .error .reservedOpcode ∧ decode 0x20000001 = .error .reservedBits

/-- Decoding the word of a command gives the command back, with every operand at every value (R111 to R115, R119). -/
def Obligations.EncodedCommandsDecodeToThemselves : Prop :=
  ∀ i : Instr, i.wellFormed = true ∧ decode (encode i) = .ok i

/-- Each word has one meaning: a word that decodes is the word of the command it decodes to (R110, R124). -/
def Obligations.DecodedWordsAreTheEncodingOfTheirCommand : Prop :=
  ∀ (w : Word) (i : Instr), decode w = .ok i → encode i = w

/-- R116, R124: decoding is total and goes by the opcode map: the three cases in their order, and no word matches two rows. -/
def Obligations.DecodingFollowsTheOpcodeMap : Prop :=
  ∀ w : Word,
    (((w.extractLsb' 28 4).toNat = 0 ∨ 0xB < (w.extractLsb' 28 4).toNat) → decode w = .error .reservedOpcode) ∧
    (1 ≤ (w.extractLsb' 28 4).toNat → (w.extractLsb' 28 4).toNat ≤ 0xB →
      (∀ r ∈ opcodeMap, w &&& r.mask ≠ r.matchBits) → decode w = .error .reservedBits) ∧
    (∀ r ∈ opcodeMap, w &&& r.mask = r.matchBits → ∃ i, decode w = .ok i ∧ i.mnemonic = r.mnemonic ∧ encode i = w) ∧
    (∀ i, decode w = .ok i → ∃ r ∈ opcodeMap, r.mnemonic = i.mnemonic ∧ w &&& r.mask = r.matchBits) ∧
    (∀ r ∈ opcodeMap, ∀ r' ∈ opcodeMap, w &&& r.mask = r.matchBits → w &&& r'.mask = r'.matchBits → r = r')

/-- R125: the word of every line of the assembler syntax; a line whose operand does not fit its field, or with too few or too many operands,
is an error and no word. -/
def Obligations.AssemblerLinesSpellTheStatedWords : Prop :=
  (∀ (a : BusAddr) (f : FreqCode) (x y : Byte) (t : Imm24),
    encode (.init x y f) = 0x10000000 ||| f.zeroExtend 32 <<< 16 ||| x.zeroExtend 32 <<< 8 ||| y.zeroExtend 32
    ∧ encode .frst = 0x20000000
    ∧ encode (.submitW a x) = 0x30000000 ||| a.zeroExtend 32 <<< 16 ||| x.zeroExtend 32
    ∧ encode (.submitWN a x) = 0x34000000 ||| a.zeroExtend 32 <<< 16 ||| x.zeroExtend 32
    ∧ encode (.submitR a x) = 0x38000000 ||| a.zeroExtend 32 <<< 16 ||| x.zeroExtend 32
    ∧ encode (.submitRN a x) = 0x3C000000 ||| a.zeroExtend 32 <<< 16 ||| x.zeroExtend 32
    ∧ encode (.wait t) = 0x40000000 ||| t.zeroExtend 32
    ∧ encode (.wreg x y) = 0x50000000 ||| x.zeroExtend 32 <<< 8 ||| y.zeroExtend 32
    ∧ encode (.wblk x y) = 0x60000000 ||| x.zeroExtend 32 <<< 8 ||| y.zeroExtend 32
    ∧ encode (.rblk x y) = 0x70000000 ||| x.zeroExtend 32 <<< 8 ||| y.zeroExtend 32
    ∧ encode (.stb x y) = 0x80000000 ||| x.zeroExtend 32 <<< 8 ||| y.zeroExtend 32
    ∧ encode (.ldb x) = 0x90000000 ||| x.zeroExtend 32 <<< 8
    ∧ encode (.stmo t) = 0xA0000000 ||| t.zeroExtend 32
    ∧ encode (.rdst x) = 0xB0000000 ||| x.zeroExtend 32 <<< 8) ∧
  (∀ i : Instr, i.asm.assemble = some i) ∧
  (∀ (l : AsmLine) (i : Instr), l.assemble = some i → i.asm = l) ∧
  ∀ l : AsmLine, l.assemble = none ↔
    l.operands.length ≠ l.mnemonic.widths.length ∨ ∃ x ∈ l.operands.zip l.mnemonic.widths, 2 ^ x.2 ≤ x.1

/-! ## Commands -/

/-- R290: `INIT` in its three cases. The third is the command's completion. -/
def Obligations.InitConfiguresTheControllerOnce : Prop :=
  ∀ (scl sda : Byte) (f : FreqCode) (s : State),
    (s.lc ≠ .uninit → exec (.init scl sda f) s = .next { s with res := .initFailed, rej := .none, rsp := some 0x00000007 }) ∧
    (s.lc = .uninit → s.par.initOk scl sda f = false →
      exec (.init scl sda f) s = .next { s with lc := .failed, res := .initFailed, rej := .none, rsp := some 0x00000007 }) ∧
    (s.lc = .uninit → s.par.initOk scl sda f = true →
      exec (.init scl sda f) s = .next { s with
        sclpin := scl, sdapin := sda, freq := f, hreg := true, ien := true, en := true, lc := .ready,
        res := .success, rej := .none, rsp := some 0x00000000 })

/-- R291: `LC = Failed` is absorbing until reset: `INIT` is refused, every transaction is rejected NotReady, no `fe_step` and no `cb_step` is
ever enabled, and the lines stay released. -/
def Obligations.FailedIsAbsorbingAndQuiet : Prop :=
  ∀ s : State, Inv s → s.lc = .failed →
    feEnabled s = false ∧ cbEnabled s = false ∧ s.sclO = true ∧ s.sdaO = true ∧
    (∀ (scl sda : Byte) (f : FreqCode),
      exec (.init scl sda f) s = .next { s with res := .initFailed, rej := .none, rsp := some 0x00000007 }) ∧
    (∀ (a : BusAddr) (x y : Byte),
      ∀ i ∈ [Instr.submitW a x, .submitWN a x, .submitR a x, .submitRN a x, .wreg x y, .wblk x y, .rblk x y],
        ∃ t, exec i s = .next t ∧ t.rsp = some 0x00000011 ∧ t.res = .submissionRejected ∧ t.rej = .notReady
          ∧ t.fes = s.fes ∧ t.busy = s.busy ∧ t.txb = s.txb) ∧
    ∀ (m : Move) (t : State), isReset m = false → perform m s = .next t → t.lc = .failed

/-- R210: `FRST`; that twice in a row is the same as once; and that with a frame outstanding, or before the block is ready, every `SUBMIT` after
it is rejected all the same. -/
def Obligations.FrstClearsTheFlagAndArms : Prop :=
  ∀ s : State,
    exec .frst s = .next { s with
      cflag := false, armed := !s.busy, res := .success, rej := .none, rsp := some 0x00000000 } ∧
    ∀ t, exec .frst s = .next t → exec .frst t = .next t ∧
      (s.busy = true ∨ s.lc ≠ .ready → ∀ (a : BusAddr) (n : Byte),
        ∀ i ∈ [Instr.submitW a n, .submitWN a n, .submitR a n, .submitRN a n], ∃ u, exec i t = .next u ∧ u.res = .submissionRejected)

/-- R142: an accepted `SUBMIT` in each of its three legal forms: the response `Success` and the launch of the frame. The load of the phase
counter is R362's. -/
def Obligations.AcceptedSubmissionsLaunchTheirFrame : Prop :=
  ∀ (a : BusAddr) (len : Byte) (s : State), s.lc = .ready → s.busy = false → s.armed = true → len ≠ 0 →
    (∀ i ∈ [(Instr.submitW a len, false), (.submitWN a len, true)], len.toNat ≤ s.par.txCap →
      exec i.1 s = .next { s with
        dir := false, nostop := i.2, addr := a, len := len, idx := 0, errc := .none,
        armed := false, busy := true, sym := if s.claimed then .sr else .s, phi := 0, fes := .run,
        qcnt := s.par.div s.freq, res := .success, rej := .none, rsp := some 0x00000000 }) ∧
    (len.toNat ≤ s.par.rxCap →
      exec (.submitR a len) s = .next { s with
        dir := true, nostop := false, addr := a, len := len, idx := 0, errc := .none, ridx := 0, rxv := false,
        armed := false, busy := true, sym := if s.claimed then .sr else .s, phi := 0, fes := .run,
        qcnt := s.par.div s.freq, res := .success, rej := .none, rsp := some 0x00000000 })

/-- R141, R144, R320 (4): the reject causes of `SUBMIT` in their order, for all four forms; a rejected one changes nothing but `RES` and
`REJ`; with no cause left it is accepted. -/
def Obligations.RejectedSubmissionsReportTheFirstCause : Prop :=
  ∀ (dir nostop : Bool) (a : BusAddr) (len : Byte) (s : State) (i : Instr),
    i = (match dir, nostop with
      | false, false => .submitW a len
      | false, true  => .submitWN a len
      | true, false  => .submitR a len
      | true, true   => .submitRN a len) →
    let rejected (cause : Rej) (r : Word) : Prop :=
      exec i s = .next { s with res := .submissionRejected, rej := cause, rsp := some r }
    (s.lc ≠ .ready → rejected .notReady 0x00000011) ∧
    (s.lc = .ready → s.busy = true → rejected .busy 0x00000021) ∧
    (s.lc = .ready → s.busy = false → s.armed = false → rejected .notArmed 0x00000031) ∧
    (s.lc = .ready → s.busy = false → s.armed = true → dir = true → nostop = true → rejected .badForm 0x00000041) ∧
    (s.lc = .ready → s.busy = false → s.armed = true → (dir = true → nostop = false) → len = 0 → rejected .badLength 0x00000051) ∧
    (s.lc = .ready → s.busy = false → s.armed = true → dir = false → s.par.txCap < len.toNat → rejected .badLength 0x00000051) ∧
    (s.lc = .ready → s.busy = false → s.armed = true → dir = true → nostop = false → s.par.rxCap < len.toNat →
      rejected .badLength 0x00000051) ∧
    (s.lc = .ready → s.busy = false → s.armed = true → (dir = true → nostop = false) → len ≠ 0 →
      len.toNat ≤ (if dir then s.par.rxCap else s.par.txCap) →
      ∃ t, exec i s = .next t ∧ t.rsp = some 0x00000000 ∧ t.res = .success ∧ t.rej = .none ∧ t.busy = true)

/-- R140, R141: `SUBMIT.RN` runs to its end on every state and is always rejected: BadForm, or an earlier cause. -/
def Obligations.SubmitRnIsAlwaysRejected : Prop :=
  ∀ (a : BusAddr) (len : Byte) (s : State),
    exec (.submitRN a len) s = .next { s with
      res := .submissionRejected,
      rej := if s.lc ≠ .ready then .notReady else if s.busy then .busy else if s.armed then .badForm else .notArmed,
      rsp := some (if s.lc ≠ .ready then 0x00000011 else if s.busy then 0x00000021 else if s.armed then 0x00000041 else 0x00000031) }

/-- R212, R213, R323: `WAIT`: with a budget of 0 it returns `Timeout` at once, whatever the flag is; else its `host_cmd` step closes the port and
starts polling, with no response yet. One iteration of the poll is the decrement, then the flag, then the counter; `Done` wins in the last
iteration; the response carries `TCNT`. -/
def Obligations.WaitPollsTheFlagBeforeTheCounter : Prop :=
  (∀ (b : Imm24) (s : State),
    (b = 0 → exec (.wait b) s = .next { s with tcnt := 0, res := .timeout, rej := .none, rsp := some 0x00000006 }) ∧
    (b ≠ 0 → exec (.wait b) s = .next { s with tcnt := b, lock := true, seq := .waitW })) ∧
  ∀ s : State, s.lock = true → s.seq = .waitW → s.tcnt ≠ 0 →
    (s.cflag = true →
      perform .seq s = .next { s with
        tcnt := s.tcnt - 1, lock := false, seq := .idle, res := .success, rej := .none,
        rsp := some ((s.tcnt - 1).zeroExtend 32 <<< 8) }) ∧
    (s.cflag = false → s.tcnt = 1 →
      perform .seq s = .next { s with
        tcnt := 0, lock := false, seq := .idle, res := .timeout, rej := .none, rsp := some 0x00000006 }) ∧
    (s.cflag = false → s.tcnt ≠ 1 → perform .seq s = .next { s with tcnt := s.tcnt - 1 })

/-- R214: exactness of the wait, whatever the other agents do in between, at both levels. With `CFLAG = 0` throughout, fewer than `b` iterations
leave it polling with the rest of its budget, and the `b`-th returns `Timeout` with `TCNT = 0`; with `b = 0` there is none; and it never takes
more than `b` iterations whatever happens to the flag. -/
def Obligations.AWaitTimesOutAfterExactlyItsBudget : Prop :=
  (∀ (s : State), exec (.wait 0) s = .next { s with tcnt := 0, res := .timeout, rej := .none, rsp := some 0x00000006 }) ∧
  ∀ (s t : State) (b : Imm24) (ms : List Move), Inv s → s.lock = false → b ≠ 0 → exec (.wait b) s = .next t →
    (∀ m ∈ ms, isReset m = false) →
    ((∀ k u, runMoves (ms.take k) t = .next u → u.cflag = false) →
      (ms.countP stepsSequencer < b.toNat →
        ∃ u, runMoves ms t = .next u ∧ u.lock = true ∧ u.seq = .waitW ∧ u.tcnt.toNat + ms.countP stepsSequencer = b.toNat) ∧
      ∀ m, stepsSequencer m = true → ms.countP stepsSequencer + 1 = b.toNat →
        ∃ u, runMoves (ms ++ [m]) t = .next u ∧ u.lock = false ∧ u.seq = .idle ∧ u.tcnt = 0 ∧ u.res = .timeout
          ∧ u.rsp = some 0x00000006) ∧
    (b.toNat ≤ ms.countP stepsSequencer → ∃ k u, runMoves (ms.take k) t = .next u ∧ u.lock = false)

/-- R249: what each multi-step command can take at most, and that it ends with a response within that many sequencer steps, whatever moves the
other agents make in between. -/
def Obligations.MultiStepCommandsEndWithinTheirBound : Prop :=
  ∀ (s t : State) (i : Instr), Inv s → s.lock = false → s.rsp = none → exec i s = .next t → t.lock = true →
    (∀ b, i = .wait b → stepsLeft t = b.toNat) ∧
    (∀ x y, i = .wreg x y ∨ i = .wblk x y → stepsLeft t = s.tbudget.toNat) ∧
    (∀ x y, i = .rblk x y → stepsLeft t = 2 * s.tbudget.toNat + 1) ∧
    ((∃ b, i = .wait b) ∨ ∃ x y, i = .wreg x y ∨ i = .wblk x y ∨ i = .rblk x y) ∧
    ∀ ms : List Move, (∀ m ∈ ms, isReset m = false) → stepsLeft t ≤ ms.countP stepsSequencer →
      ∃ k u, runMoves (ms.take k) t = .next u ∧ u.lock = false ∧ u.seq = .idle ∧ u.rsp ≠ none

/-- R216: `STMO`. -/
def Obligations.StmoSetsTheBudgetAndNothingElse : Prop :=
  ∀ (b : Imm24) (s : State),
    exec (.stmo b) s = .next { s with tbudget := b, res := .success, rej := .none, rsp := some 0x00000000 }

/-! ## Primitives -/

/-- R231, R238, R239, R240, R359: a primitive that passes its check: flag reset, staging, launch of the frame to `TARGET_ADDR`, `TCNT` loaded, port
closed, sequencer at the waiting point, no response yet. With `TBUDGET = 0` it launches its frame all the same and returns `Timeout` in the
same step, leaving the frame outstanding. -/
def Obligations.PrimitivesLaunchTheirFrame : Prop :=
  (∀ (reg x : Byte) (s : State), s.lc = .ready → s.busy = false → s.tbudget ≠ 0 →
    exec (.wreg reg x) s = .next { s with
      cflag := false, txb := Memory.put (Memory.put s.txb 0 reg) 1 x,
      dir := false, nostop := false, addr := s.par.targetAddr, len := 2, idx := 0, errc := .none,
      armed := false, busy := true, sym := if s.claimed then .sr else .s, phi := 0, fes := .run, qcnt := s.par.div s.freq,
      tcnt := s.tbudget, lock := true, seq := .primW } ∧
    (x ≠ 0 → x.toNat ≤ s.par.dataCap →
      exec (.wblk reg x) s = .next { s with
        cflag := false, txb := Memory.put s.txb 0 reg,
        dir := false, nostop := false, addr := s.par.targetAddr, len := x + 1, idx := 0, errc := .none,
        armed := false, busy := true, sym := if s.claimed then .sr else .s, phi := 0, fes := .run, qcnt := s.par.div s.freq,
        tcnt := s.tbudget, lock := true, seq := .primW } ∧ (x + 1).toNat = x.toNat + 1 ∧ (x + 1).toNat ≤ s.par.txCap) ∧
    (x ≠ 0 → x.toNat ≤ s.par.dataCap →
      exec (.rblk reg x) s = .next { s with
        rlen := x, cflag := false, txb := Memory.put s.txb 0 reg,
        dir := false, nostop := true, addr := s.par.targetAddr, len := 1, idx := 0, errc := .none,
        armed := false, busy := true, sym := if s.claimed then .sr else .s, phi := 0, fes := .run, qcnt := s.par.div s.freq,
        tcnt := s.tbudget, lock := true, seq := .rb1W })) ∧
  ∀ (reg x : Byte) (s : State), s.lc = .ready → s.busy = false → s.tbudget = 0 →
    ∀ i ∈ [(Instr.wreg reg x, Memory.put (Memory.put s.txb 0 reg) 1 x, false, (2 : Byte), s.rlen),
           (.wblk reg x, Memory.put s.txb 0 reg, false, x + 1, s.rlen), (.rblk reg x, Memory.put s.txb 0 reg, true, 1, x)],
      i.1 = .wreg reg x ∨ x ≠ 0 ∧ x.toNat ≤ s.par.dataCap → exec i.1 s = .next { s with
        rlen := i.2.2.2.2, cflag := false, txb := i.2.1,
        dir := false, nostop := i.2.2.1, addr := s.par.targetAddr, len := i.2.2.2.1, idx := 0, errc := .none,
        armed := false, busy := true, sym := if s.claimed then .sr else .s, phi := 0, fes := .run, qcnt := s.par.div s.freq,
        tcnt := 0, lock := false, seq := .idle, res := .timeout, rej := .none, rsp := some 0x00000006 }

/-- R231, R232, R236 (a), R320 (4): the reject causes of the primitives in their order. The flag reset is done all the same, `RBLK` has written
`RLEN`; nothing is staged and the frame outstanding, if any, is not touched. With no cause left the frame is launched. -/
def Obligations.RejectedPrimitivesResetTheFlagOnly : Prop :=
  ∀ (reg x : Byte) (s : State), ∀ i ∈ [(Instr.wreg reg x, s.rlen, (1 : Byte)), (.wblk reg x, s.rlen, x), (.rblk reg x, x, x)],
    let rejected (cause : Rej) (r : Word) : Prop :=
      exec i.1 s = .next { s with
        rlen := i.2.1, cflag := false, armed := !s.busy, lock := false, seq := .idle,
        res := .submissionRejected, rej := cause, rsp := some r }
    (s.lc ≠ .ready → rejected .notReady 0x00000011) ∧
    (s.lc = .ready → s.busy = true → rejected .busy 0x00000021) ∧
    (s.lc = .ready → s.busy = false → (i.2.2 = 0 ∨ s.par.dataCap < i.2.2.toNat) → rejected .badLength 0x00000051) ∧
    (s.lc = .ready → s.busy = false → i.2.2 ≠ 0 → i.2.2.toNat ≤ s.par.dataCap →
      ∃ t, exec i.1 s = .next t ∧ t.busy = true ∧ t.fes = .run)

/-- R245: what the primitives change in `TXB`: `WREG` bytes 0 and 1, `WBLK` and `RBLK` byte 0, a rejected one nothing; `RXB` is not touched. -/
def Obligations.PrimitivesStageExactlyTheirBytes : Prop :=
  ∀ (reg x : Byte) (s t : State),
    (exec (.wreg reg x) s = .next t →
      ∀ j, Memory.get t.txb j = if t.res = .submissionRejected ∧ t.lock = false then Memory.get s.txb j
        else if j = 0 then some reg else if j = 1 then some x else Memory.get s.txb j) ∧
    (∀ i ∈ [Instr.wblk reg x, .rblk reg x], exec i s = .next t →
      ∀ j, Memory.get t.txb j = if t.res = .submissionRejected ∧ t.lock = false then Memory.get s.txb j
        else if j = 0 then some reg else Memory.get s.txb j) ∧
    ∀ i ∈ [Instr.wreg reg x, .wblk reg x, .rblk reg x], exec i s = .next t → t.rxb = s.rxb

/-- R233, R234, R243, R323: one step of the wait of `WREG`, `WBLK`, and of phase two of `RBLK`: the outcome is the delivered event under the
same number, `Done` as `Success`; the flag is tested before the counter. `EVT = None` never meets this test (log entry 4). -/
def Obligations.AFrameWaitReturnsTheDeliveredEvent : Prop :=
  ∀ s : State, s.lock = true → s.seq = .primW ∨ s.seq = .rb2W → s.tcnt ≠ 0 →
    (Inv s → s.cflag = true → s.evt ≠ .none) ∧
    (s.cflag = true → ∀ e ∈ [(Ev.done, Code.success, (0x00000000 : Word)), (.addressNack, .addressNack, 0x00000002),
        (.dataNack, .dataNack, 0x00000003), (.overrun, .overrun, 0x00000004), (.busError, .busError, 0x00000005)],
      s.evt = e.1 → perform .seq s = .next { s with
        tcnt := s.tcnt - 1, lock := false, seq := .idle, res := e.2.1, rej := .none, rsp := some e.2.2 }) ∧
    (s.cflag = false → s.tcnt = 1 → perform .seq s = .next { s with
        tcnt := 0, lock := false, seq := .idle, res := .timeout, rej := .none, rsp := some 0x00000006 }) ∧
    (s.cflag = false → s.tcnt ≠ 1 → perform .seq s = .next { s with tcnt := s.tcnt - 1 })

/-- R241, R242: one step of the wait of phase one of `RBLK`: only a delivered `Done` goes on to phase two; every other event, and `Timeout`, ends
the command with that result. The launch of phase two, in every state that keeps the invariant, is never rejected, begins with a repeated
START because the bus is claimed, and waits with a fresh `TBUDGET`. -/
def Obligations.PhaseTwoFollowsOnlyASuccessfulPhaseOne : Prop :=
  (∀ s : State, s.lock = true → s.seq = .rb1W → s.tcnt ≠ 0 →
    (s.cflag = true → s.evt = .done → perform .seq s = .next { s with tcnt := s.tcnt - 1, seq := .rb2L }) ∧
    (s.cflag = true → ∀ e ∈ [(Ev.addressNack, Code.addressNack, (0x00000002 : Word)), (.dataNack, .dataNack, 0x00000003),
        (.overrun, .overrun, 0x00000004), (.busError, .busError, 0x00000005)],
      s.evt = e.1 → perform .seq s = .next { s with
        tcnt := s.tcnt - 1, lock := false, seq := .idle, res := e.2.1, rej := .none, rsp := some e.2.2 }) ∧
    (s.cflag = false → s.tcnt = 1 → perform .seq s = .next { s with
        tcnt := 0, lock := false, seq := .idle, res := .timeout, rej := .none, rsp := some 0x00000006 }) ∧
    (s.cflag = false → s.tcnt ≠ 1 → perform .seq s = .next { s with tcnt := s.tcnt - 1 })) ∧
  ∀ s : State, Inv s → s.seq = .rb2L →
    s.tbudget ≠ 0 ∧ s.claimed = true ∧
    perform .seq s = .next { s with
      cflag := false, armed := false, busy := true,
      dir := true, nostop := false, addr := s.par.targetAddr, len := s.rlen, idx := 0, errc := .none, ridx := 0, rxv := false,
      sym := .sr, phi := 0, fes := .run, qcnt := s.par.div s.freq, tcnt := s.tbudget, seq := .rb2W }

/-- R249: the transition graph of the sequencer, over all agents: from `IDLE` only a command leaves, every wait stays or ends where the table says,
and `RB2_L` goes on at once. -/
def Obligations.TheSequencerFollowsItsGraph : Prop :=
  (∀ (i : Instr) (s t : State), s.lock = false → s.seq = .idle → exec i s = .next t →
    t.seq = (match i with
      | .wait b => if b = 0 then .idle else .waitW
      | .wreg _ _ => if s.lc = .ready ∧ s.busy = false ∧ s.tbudget ≠ 0 then .primW else .idle
      | .wblk _ n => if s.lc = .ready ∧ s.busy = false ∧ s.tbudget ≠ 0 ∧ n ≠ 0 ∧ n.toNat ≤ s.par.dataCap then .primW else .idle
      | .rblk _ n => if s.lc = .ready ∧ s.busy = false ∧ s.tbudget ≠ 0 ∧ n ≠ 0 ∧ n.toNat ≤ s.par.dataCap then .rb1W else .idle
      | _ => .idle)) ∧
  (∀ (s t : State), Inv s → perform .seq s = .next t →
    (s.seq, t.seq) ∈ [(SeqPoint.idle, SeqPoint.idle), (.waitW, .waitW), (.waitW, .idle), (.primW, .primW), (.primW, .idle), (.rb1W, .rb1W),
      (.rb1W, .idle), (.rb1W, .rb2L), (.rb2L, .rb2W), (.rb2W, .rb2W), (.rb2W, .idle)] ∧
    (t.seq = s.seq → s.seq ≠ .idle → s.cflag = false ∧ s.tcnt ≠ 1) ∧
    (s.seq = .rb1W → (t.seq = .rb2L ↔ s.cflag = true ∧ s.evt = .done))) ∧
  ∀ (m : Move) (s t : State), isReset m = false → stepsSequencer m = false → s.lock = true → perform m s = .next t →
    t.seq = s.seq ∧ t.tcnt = s.tcnt ∧ t.lock = true ∧ t.rlen = s.rlen ∧ t.tbudget = s.tbudget

/-! ## Buffer and status access -/

/-- R260: `STB`: in range and with no write frame outstanding it stores its byte, every other byte of both buffers keeping its value; otherwise
`Illegal`. -/
def Obligations.StbStoresOneByteOrIsIllegal : Prop :=
  ∀ (idx b : Byte) (s : State),
    (idx.toNat < s.par.txCap → s.busy = false ∨ s.dir = true →
      ∃ m, exec (.stb idx b) s = .next { s with txb := m, res := .success, rej := .none, rsp := some 0x00000000 } ∧
        ∀ j, Memory.get m j = if j = idx.toNat then some b else Memory.get s.txb j) ∧
    (s.par.txCap ≤ idx.toNat ∨ s.busy = true ∧ s.dir = false →
      exec (.stb idx b) s = .next { s with res := .illegal, rej := .none, rsp := some 0x0000000F })

/-- R84, R261: `LDB`: in range and with no read frame outstanding it returns the byte stored, or, where nothing has written the byte, some value,
and changes neither buffer; otherwise `Illegal`. `draws` is the model's own counter of free values (log entry 3). -/
def Obligations.LdbReturnsTheByteOrIsIllegal : Prop :=
  ∀ (idx : Byte) (s : State),
    (idx.toNat < s.par.rxCap → s.busy = false ∨ s.dir = false →
      (∀ b, Memory.get s.rxb idx.toNat = some b →
        exec (.ldb idx) s = .next { s with res := .success, rej := .none, rsp := some (b.zeroExtend 32 <<< 8) }) ∧
      (Memory.get s.rxb idx.toNat = none →
        ∃ (v : Byte) (n : Nat), exec (.ldb idx) s = .next { s with
          draws := n, res := .success, rej := .none, rsp := some (v.zeroExtend 32 <<< 8) })) ∧
    (s.par.rxCap ≤ idx.toNat ∨ s.busy = true ∧ s.dir = true →
      exec (.ldb idx) s = .next { s with res := .illegal, rej := .none, rsp := some 0x0000000F })

/-- R59, R262: `RDST`: selectors 0 to 5 return their register and leave `RES` and `REJ` alone; every other selector is `Illegal`. -/
def Obligations.RdstReadsARegisterAndChangesNothing : Prop :=
  ∀ (sel : Byte) (s : State),
    (∀ r ∈ [((0 : Byte), statusReg s), (1, lastReg s), (2, eventReg s), (3, s.tbudget), (4, s.tcnt), (5, configReg s)],
      sel = r.1 → exec (.rdst sel) s = .next { s with rsp := some (r.2.zeroExtend 32 <<< 8) }) ∧
    (5 < sel.toNat → exec (.rdst sel) s = .next { s with res := .illegal, rej := .none, rsp := some 0x0000000F })

/-- R56 to R59, with the codes of R31, R44, R51, R300, R301: every field of the readable registers at its place, the rest zero; and reading one
changes nothing. -/
def Obligations.ReadableRegistersHaveTheStatedLayout : Prop :=
  ∀ s : State,
    let lc : Nat := match s.lc with | .uninit => 0 | .ready => 1 | .failed => 2
    let fes : Nat := match s.fes with | .idle => 0 | .run => 1 | .drain => 2 | .held => 3
    let ev (e : Ev) : Nat := match e with | .none => 0 | .done => 1 | .addressNack => 2 | .dataNack => 3 | .overrun => 4 | .busError => 5
    let res : Nat := match s.res with
      | .success => 0 | .submissionRejected => 1 | .addressNack => 2 | .dataNack => 3 | .overrun => 4 | .busError => 5 | .timeout => 6
      | .initFailed => 7 | .illegal => 15
    let rej : Nat := match s.rej with | .none => 0 | .notReady => 1 | .busy => 2 | .notArmed => 3 | .badForm => 4 | .badLength => 5
    (statusReg s).toNat = lc + 4 * s.en.toNat + 8 * s.ien.toNat + 16 * s.hreg.toNat + 32 * s.armed.toNat + 64 * s.busy.toNat
      + 128 * s.cflag.toNat + 256 * s.claimed.toNat + 512 * s.rxv.toNat
      + 1024 * (if s.evtp ≠ .none ∧ s.ien = true then 1 else 0) + 2048 * ev s.evtp + 16384 * fes ∧
    (lastReg s).toNat = res + 16 * rej ∧
    (eventReg s).toNat = ev s.evt ∧
    (configReg s).toNat = s.sdapin.toNat + 256 * s.sclpin.toNat + 65536 * s.freq.toNat ∧
    ∀ r ∈ [((0 : Byte), statusReg s), (1, lastReg s), (2, eventReg s), (5, configReg s)],
      exec (.rdst r.1) s = .next { s with rsp := some (r.2.zeroExtend 32 <<< 8) }

/-- R46, R94, R117, R118, R301, R302: every command taken gives exactly one response, in the step that ends it, with a result code and a reject
cause that the command can return, and `RES`, `REJ` record them except for a legal `RDST`. The data is the selected register for `RDST`, the byte
stored for `LDB` (some byte where nothing has been stored), and 0 for every other command and every other code. A multi-step command gives none in its `host_cmd`
step, and one in the sequencer step that ends it, with `TCNT` as data for `WAIT` and no data otherwise. -/
def Obligations.EveryCommandAnswersOnceWithItsCodes : Prop :=
  (∀ (i : Instr) (s t : State), s.lock = false → s.rsp = none → exec i s = .next t →
    (t.lock = true ∧ t.rsp = none ∧ ((∃ b, i = .wait b) ∨ ∃ x y, i = .wreg x y ∨ i = .wblk x y ∨ i = .rblk x y)) ∨
    (t.lock = false ∧ ∃ (c : Code) (r : Rej) (d : Imm24), t.rsp = some (d ++ r.bits ++ c.bits) ∧ c ∈ codesOf i
      ∧ (if c = .submissionRejected then r ∈ causesOf i else r = .none)
      ∧ (match i, c with
        | .rdst sel, .success => t.res = s.res ∧ t.rej = s.rej ∧ selected sel s = some d
        | .ldb idx, .success  => t.res = .success ∧ t.rej = .none
            ∧ ∃ b : Byte, d = b.zeroExtend 24 ∧ ∀ v, Memory.get s.rxb idx.toNat = some v → b = v
        | _, _                => t.res = c ∧ t.rej = r ∧ d = 0))) ∧
  ∀ (s t : State), Inv s → s.lock = true → s.rsp = none → perform .seq s = .next t →
    (t.lock = true ∧ t.rsp = none ∧ t.res = s.res ∧ t.rej = s.rej) ∨
    (t.lock = false ∧ ∃ c ∈ codesAt s.seq,
      t.rsp = some ((if s.seq = .waitW then t.tcnt else 0) ++ Rej.bits .none ++ Code.bits c) ∧ t.res = c ∧ t.rej = .none)

/-! ## The engine -/

/-- R173 to R179: the lines of every phase of every symbol, and the lines before and after each symbol. The bit of `TXA` and `TXD` is
`SHIFT[BITC]`; that of `MACK` is a NACK after an error and for the last byte (R154). A step that ends in BusError releases both lines (R157). A phase
that is performed and is not its symbol's last goes on to the next phase and changes nothing else but the sample: in phase 1 of `ACKA`, `ACKD`
and `RXBIT` it is SDA as the target drives it, and no other phase of theirs, nor any of `S`, `SR`, `P`, `H`, takes one (R172, R177, R188). What
`SAMP` holds in a sent bit is left open (log entry 6). -/
def Obligations.EveryPhaseDrivesItsLines : Prop :=
  ∀ (s t : State) (sclT sdaT : Bool), Inv s → s.fes = .run → perform (.fe sclT sdaT) s = .next t →
    let b : Bool := s.shift.getLsbD s.bitc.toNat
    let nack : Bool := s.errc != .none || decide (s.idx.toNat + 1 = s.len.toNat)
    let bitPhases (b : Bool) : List (Bool × Bool) := [(false, b), (true, b), (true, b), (false, b)]
    let phases : List (Bool × Bool) := match s.sym with
      | .s => [(true, true), (true, false), (false, false)]
      | .sr => [(false, true), (true, true), (true, false), (false, false)]
      | .txa | .txd => bitPhases b
      | .mack => bitPhases nack
      | .acka | .ackd | .rxbit => bitPhases true
      | .p => [(false, false), (true, false), (true, true), (true, true)]
      | .h => [(false, true)]
    s.phi.val < phases.length ∧
    (t.evtp ≠ .busError → phases[s.phi.val]? = some (t.sclO, t.sdaO)) ∧
    (t.evtp = .busError → t.sclO = true ∧ t.sdaO = true) ∧
    (s.phi = 0 → (s.sym = .s → s.sclO = true ∧ s.sdaO = true) ∧ (s.sym = .sr → s.sclO = false ∧ s.sdaO = true)
      ∧ (s.sym ≠ .s → s.sclO = false)) ∧
    (t.evtp ≠ .busError → s.phi.val + 1 < phases.length → (sclT = true ∨ s.phi ≠ 1 ∨ s.sym = .s) →
      t = { s with sclO := t.sclO, sdaO := t.sdaO, phi := s.phi + 1, qcnt := s.par.div s.freq, samp := t.samp } ∧
      (s.sym ∈ [Sym.acka, .ackd, .rxbit] → t.samp = if s.phi = 1 then sdaT else s.samp) ∧
      (s.sym ∈ [Sym.s, .sr, .p, .h] → t.samp = s.samp))

/-- R187: SDA changes only while SCL is low, before and after, except in the two edges that are START and STOP; every symbol but `S` begins with SCL
low, and every symbol but `P` ends with SCL low. The same of the `clk` edges of the clocked block, at which the lines of the phase in progress are
out already (log entry 10): an edge keeps that, and brings out the next phase's. -/
def Obligations.SdaChangesOnlyWhileSclIsLow : Prop :=
  (∀ (s t : State) (sclT sdaT : Bool), Inv s → perform (.fe sclT sdaT) s = .next t →
    (t.sdaO ≠ s.sdaO → (s.sclO = false ∧ t.sclO = false) ∨
      (s.fes = .run ∧ s.sclO = true ∧ t.sclO = true ∧
        ((s.sdaO = true ∧ (s.sym = .s ∧ s.phi = 1 ∨ s.sym = .sr ∧ s.phi = 2)) ∨ (s.sdaO = false ∧ s.sym = .p ∧ s.phi = 2)))) ∧
    (s.fes = .run → s.phi = 0 → s.sym ≠ .s → s.sclO = false) ∧
    (s.fes = .run → s.sym ≠ .p → t.evtp ≠ .busError →
      (s.sym = .s ∧ s.phi = 2 ∨ s.sym = .h ∨ s.phi = 3) → t.sclO = false)) ∧
  (∀ (p : Params) (prog : List HostItem) (agenda : List Move) (draws : Nat), linesOut (boot p prog agenda draws)) ∧
  ∀ (s t : State) (e : EdgeIn), Inv s → linesOut s → e.rstN = true → perform (.edge e) s = .next t →
    linesOut t ∧
    (t.sdaO ≠ s.sdaO → (s.sclO = false ∧ t.sclO = false) ∨
      (s.fes = .run ∧ t.fes = .run ∧ s.sclO = true ∧ t.sclO = true ∧
        ((s.sdaO = true ∧ (t.sym = .s ∧ t.phi = 1 ∨ t.sym = .sr ∧ t.phi = 2)) ∨ (s.sdaO = false ∧ t.sym = .p ∧ t.phi = 2))))

/-- R180, R181: in an SCL-release phase with `scl_t = 0` a step sets the lines and changes nothing else, however often; in every other phase
`scl_t` is ignored, except in phase 0 of `S`. -/
def Obligations.AHeldClockStallsTheEngine : Prop :=
  ∀ (s : State) (sdaT : Bool), Inv s → s.fes = .run →
    (s.sym ≠ .s → s.sym ≠ .h → s.phi = 1 → ∀ n, 0 < n →
      ∃ b, runMoves (List.replicate n (.fe false sdaT)) s = .next { s with sclO := true, sdaO := b }) ∧
    (s.phi ≠ 1 ∨ s.sym = .s → ¬ (s.sym = .s ∧ s.phi = 0) → perform (.fe false sdaT) s = perform (.fe true sdaT) s)

/-- R157, R182 to R186: BusError has exactly four causes, each with the same end: the event is pending, the engine idle, the lines released, no
STOP. That the registers R157 does not name (`IDX`, `BITC`, `SHIFT`, `SYM`, `PHI`, `RXD`, `RIDX`) keep their values is the model's choice (log entry 7). -/
def Obligations.BusErrorHasExactlyFourCauses : Prop :=
  ∀ (s t : State) (sclT sdaT : Bool), Inv s → s.fes = .run → perform (.fe sclT sdaT) s = .next t →
    let cause : Prop :=
      (s.sym = .s ∧ s.phi = 0 ∧ (sclT = false ∨ sdaT = false)) ∨
      (s.sym = .sr ∧ s.phi = 1 ∧ sclT = true ∧ sdaT = false) ∨
      (((s.sym = .txa ∨ s.sym = .txd) ∧ s.shift.getLsbD s.bitc.toNat = true ∨ s.sym = .mack ∧ s.idx.toNat + 1 = s.len.toNat)
        ∧ s.phi = 1 ∧ sclT = true ∧ sdaT = false ∧ s.errc = .none) ∨
      (s.sym = .p ∧ s.phi = 3 ∧ sdaT = false ∧ s.errc = .none)
    (t.evtp = .busError ↔ cause) ∧
    (cause → t = { s with
      errc := .busError, sclO := true, sdaO := true, claimed := false, rxv := false, evtp := .busError, fes := .idle,
      samp := t.samp, qcnt := t.qcnt })

/-- R151: frame start and address phase: what the step that completes each symbol does. `QCNT` takes the next phase's count (R362). A byte of `TXB`
that nothing has written is sent with some value (R84). -/
def Obligations.AddressPhaseGoesSymbolBySymbol : Prop :=
  ∀ (s : State) (sclT sdaT : Bool), s.fes = .run →
    let q : Nat := s.par.div s.freq
    let b : Bool := s.shift.getLsbD s.bitc.toNat
    (s.sym = .s ∧ s.phi = 2 ∨ s.sym = .sr ∧ s.phi = 3 → perform (.fe sclT sdaT) s = .next { s with
      sclO := false, sdaO := false, qcnt := q, shift := s.addr ++ BitVec.ofBool s.dir, bitc := 7, sym := .txa, phi := 0 }) ∧
    (s.sym = .txa → s.phi = 3 → s.bitc ≠ 0 → perform (.fe sclT sdaT) s = .next { s with
      sclO := false, sdaO := b, qcnt := q, bitc := s.bitc - 1, phi := 0 }) ∧
    (s.sym = .txa → s.phi = 3 → s.bitc = 0 → perform (.fe sclT sdaT) s = .next { s with
      sclO := false, sdaO := b, qcnt := q, sym := .acka, phi := 0 }) ∧
    (s.sym = .acka → s.phi = 3 → s.samp = true → perform (.fe sclT sdaT) s = .next { s with
      sclO := false, sdaO := true, qcnt := q, errc := .addressNack, sym := .p, phi := 0 }) ∧
    (s.sym = .acka → s.phi = 3 → s.samp = false → s.dir = false →
      (∀ v, Memory.get s.txb 0 = some v → perform (.fe sclT sdaT) s = .next { s with
        sclO := false, sdaO := true, qcnt := q, idx := 0, shift := v, bitc := 7, sym := .txd, phi := 0 }) ∧
      (Memory.get s.txb 0 = none → ∃ v n, perform (.fe sclT sdaT) s = .next { s with
        sclO := false, sdaO := true, qcnt := q, idx := 0, shift := v, draws := n, bitc := 7, sym := .txd, phi := 0 })) ∧
    (s.sym = .acka → s.phi = 3 → s.samp = false → s.dir = true → perform (.fe sclT sdaT) s = .next { s with
      sclO := false, sdaO := true, qcnt := q, idx := 0, bitc := 7, sym := .rxbit, phi := 0 })

/-- R152: the data phase of a write frame, symbol by symbol. -/
def Obligations.WriteDataPhaseGoesSymbolBySymbol : Prop :=
  ∀ (s : State) (sclT sdaT : Bool), s.fes = .run → s.phi = 3 → s.len.toNat ≤ s.par.txCap →
    let q : Nat := s.par.div s.freq
    let b : Bool := s.shift.getLsbD s.bitc.toNat
    (s.sym = .txd → s.bitc ≠ 0 → perform (.fe sclT sdaT) s = .next { s with
      sclO := false, sdaO := b, qcnt := q, bitc := s.bitc - 1, phi := 0 }) ∧
    (s.sym = .txd → s.bitc = 0 → perform (.fe sclT sdaT) s = .next { s with
      sclO := false, sdaO := b, qcnt := q, sym := .ackd, phi := 0 }) ∧
    (s.sym = .ackd → s.samp = true → perform (.fe sclT sdaT) s = .next { s with
      sclO := false, sdaO := true, qcnt := q, errc := .dataNack, sym := .p, phi := 0 }) ∧
    (s.sym = .ackd → s.samp = false → s.idx.toNat + 1 < s.len.toNat →
      (∀ v, Memory.get s.txb (s.idx.toNat + 1) = some v → perform (.fe sclT sdaT) s = .next { s with
        sclO := false, sdaO := true, qcnt := q, idx := s.idx + 1, shift := v, bitc := 7, sym := .txd, phi := 0 }) ∧
      (Memory.get s.txb (s.idx.toNat + 1) = none → ∃ v n, perform (.fe sclT sdaT) s = .next { s with
        sclO := false, sdaO := true, qcnt := q, idx := s.idx + 1, shift := v, draws := n, bitc := 7, sym := .txd, phi := 0 })) ∧
    (s.sym = .ackd → s.samp = false → s.idx.toNat + 1 = s.len.toNat → perform (.fe sclT sdaT) s = .next { s with
      sclO := false, sdaO := true, qcnt := q, sym := if s.nostop then .h else .p, phi := 0 })

/-- R153, R154: the data phase of a read frame: each bit at its place, most significant first; the complete byte goes to the holding register, or
is an overrun if that is full; the master's ACK slot goes on, or to STOP after an error or the last byte. -/
def Obligations.ReadDataPhaseGoesSymbolBySymbol : Prop :=
  ∀ (s : State) (sclT sdaT : Bool), s.fes = .run → s.phi = 3 →
    let q : Nat := s.par.div s.freq
    let nack : Bool := s.errc != .none || decide (s.idx.toNat + 1 = s.len.toNat)
    (s.sym = .rxbit → ∃ v : Byte, (∀ j < 8, v.getLsbD j = if j = s.bitc.toNat then s.samp else s.shift.getLsbD j) ∧
      (s.bitc ≠ 0 → perform (.fe sclT sdaT) s = .next { s with
        sclO := false, sdaO := true, qcnt := q, shift := v, bitc := s.bitc - 1, phi := 0 }) ∧
      (s.bitc = 0 → s.rxv = false → perform (.fe sclT sdaT) s = .next { s with
        sclO := false, sdaO := true, qcnt := q, shift := v, rxd := v, rxv := true, sym := .mack, phi := 0 }) ∧
      (s.bitc = 0 → s.rxv = true → perform (.fe sclT sdaT) s = .next { s with
        sclO := false, sdaO := true, qcnt := q, shift := v, errc := .overrun, sym := .mack, phi := 0 })) ∧
    (s.sym = .mack → s.errc = .none → s.idx.toNat + 1 < s.len.toNat → perform (.fe sclT sdaT) s = .next { s with
      sclO := false, sdaO := false, qcnt := q, idx := s.idx + 1, bitc := 7, sym := .rxbit, phi := 0 }) ∧
    (s.sym = .mack → s.errc ≠ .none ∨ s.idx.toNat + 1 = s.len.toNat → perform (.fe sclT sdaT) s = .next { s with
      sclO := false, sdaO := nack, qcnt := q, sym := .p, phi := 0 })

/-- R156, R157, R158: the end of a frame: after the hold, after a completed STOP, and in the drain. That the registers those rules do not name (`SYM`,
`PHI`, `IDX`, `BITC`, `SHIFT`, `RXD`) keep their values there is the model's choice (log entry 7). -/
def Obligations.FramesEndWithExactlyOneEvent : Prop :=
  ∀ (s : State) (sclT sdaT : Bool),
    let q : Nat := s.par.div s.freq
    (s.fes = .run → s.sym = .h → s.phi = 0 → perform (.fe sclT sdaT) s = .next { s with
      sclO := false, sdaO := true, qcnt := q, claimed := true, evtp := .done, fes := .held }) ∧
    (s.fes = .run → s.sym = .p → s.phi = 3 → s.errc ≠ .none → perform (.fe sclT sdaT) s = .next { s with
      sclO := true, sdaO := true, qcnt := q, claimed := false, rxv := false, evtp := s.errc, fes := .idle }) ∧
    (s.fes = .run → s.sym = .p → s.phi = 3 → s.errc = .none → sdaT = true → s.dir = false ∨ s.rxv = false →
      perform (.fe sclT sdaT) s = .next { s with
        sclO := true, sdaO := true, qcnt := q, claimed := false, evtp := .done, fes := .idle }) ∧
    (s.fes = .run → s.sym = .p → s.phi = 3 → s.errc = .none → sdaT = true → s.dir = true → s.rxv = true →
      perform (.fe sclT sdaT) s = .next { s with sclO := true, sdaO := true, qcnt := q, claimed := false, fes := .drain }) ∧
    (s.fes = .drain → s.rxv = false → perform (.fe sclT sdaT) s = .next { s with evtp := .done, fes := .idle }) ∧
    (s.fes = .drain → s.rxv = true → perform (.fe sclT sdaT) s = .next s)

/-- R155: the mover stores the held byte at `RIDX` and frees the holding register; every other byte of `RXB` keeps its value. In a reachable
state the index is in range whenever there is a byte to move. -/
def Obligations.TheMoverStoresTheHeldByte : Prop :=
  ∀ s : State, Inv s → s.rxv = true →
    s.ridx.toNat < s.len.toNat ∧ s.ridx.toNat < s.par.rxCap ∧
    ∃ m, perform .mover s = .next { s with rxb := m, ridx := s.ridx + 1, rxv := false } ∧
      ∀ j, Memory.get m j = if j = s.ridx.toNat then some s.rxd else Memory.get s.rxb j

/-- R311, R312, R313: the delivery of a completion, its whole effect and when it is enabled, and the level of `irq`; under the invariant it is
enabled exactly when an event is pending. -/
def Obligations.TheCompletionInterruptIsDelivered : Prop :=
  ∀ s : State,
    (s.evtp ≠ .none → s.ien = true → s.hreg = true → perform .cb s = .next { s with
      evt := s.evtp, cflag := true, evtp := .none, busy := false }) ∧
    (irq s = true ↔ s.evtp ≠ .none ∧ s.ien = true) ∧
    (cbEnabled s = true ↔ s.evtp ≠ .none ∧ s.ien = true ∧ s.hreg = true) ∧
    (Inv s → s.ien = s.hreg ∧ (cbEnabled s = true ↔ s.evtp ≠ .none) ∧ (s.evtp ≠ .none → irq s = true))

/-- R19, R37, R193: an agent that is not enabled does nothing: while `LOCK = 1` the host's word is neither taken nor dropped, while `LOCK = 0` the
sequencer stands, while the engine is idle or holds the bus the lines do not move whatever the target does, with an empty holding register the
mover stands, with no pending event or with the interrupt off the completion unit stands (log entry 1). -/
def Obligations.AgentsNotEnabledChangeNothing : Prop :=
  ∀ s : State,
    (s.lock = true → perform .host s = .next s ∧ cmdReady true s = false) ∧
    (s.lock = false → perform .seq s = .next s ∧ cmdReady true s = true) ∧
    (s.fes = .idle ∨ s.fes = .held → feEnabled s = false ∧ ∀ sclT sdaT, perform (.fe sclT sdaT) s = .next s) ∧
    (s.rxv = false → perform .mover s = .next s) ∧
    (s.evtp = .none ∨ s.ien = false ∨ s.hreg = false → cbEnabled s = false ∧ perform .cb s = .next s)

/-! ## Invariants and whole-machine rules -/

/-- The invariant holds after reset, under every parameter set, program and schedule. -/
def Obligations.ResetMeetsTheInvariant : Prop :=
  Inv State.reset ∧ ∀ (p : Params) (prog : List HostItem) (agenda : List Move) (draws : Nat), Inv (boot p prog agenda draws)

/-- Every step keeps the invariant, from every state that meets it. -/
def Obligations.EveryStepKeepsTheInvariant : Prop :=
  ∀ s t : State, Inv s → step s = .next t → Inv t

/-- R305: no step stops in a state that meets the invariant, whatever the host, the target and the schedule do: `classify(None)` does not occur (R234),
the engine's control point always names a phase (R53, R173), and no index leaves its buffer (R81). The model would fault on these (log entries 4,
9); that a move of an agent that is not enabled goes on without effect is log entry 1. -/
def Obligations.NoStepStopsUnderTheInvariant : Prop :=
  ∀ s : State, Inv s → (∃ t, step s = .next t) ∧ ∀ m, ∃ t, perform m s = .next t

/-- R36, R40, R52: the invariants the spec states, in every reachable state. -/
def Obligations.ReachableStatesMeetTheStatedInvariants : Prop :=
  ∀ s : State, Reachable s →
    ((s.lc = .ready ↔ s.en = true) ∧ (s.lc = .ready → s.ien = true ∧ s.hreg = true) ∧
      (s.lc ≠ .ready → s.en = false ∧ s.ien = false ∧ s.hreg = false)) ∧
    (s.armed = true → s.busy = false ∧ s.cflag = false ∧ s.evtp = .none) ∧
    (s.busy = false → (s.fes = .idle ∨ s.fes = .held) ∧ s.evtp = .none ∧ s.rxv = false) ∧
    (s.evtp ≠ .none → s.busy = true ∧ (s.fes = .idle ∨ s.fes = .held)) ∧
    (s.busy = true → s.lc = .ready) ∧
    (s.lock = true ↔ s.seq ≠ .idle)

/-- R51, R97, R161, R170, R234: what holds of the events and the lines in every reachable state: a write frame never ends in Overrun, a read frame
never in DataNack; a read frame that is Done has moved all `LEN` bytes; a flag that is set comes with an event; the lines are released when the
engine is idle, and hold SCL low, SDA released, when the bus is claimed. -/
def Obligations.ReachableEventsFitTheirFrame : Prop :=
  ∀ s : State, Reachable s →
    (s.evtp = .overrun → s.dir = true) ∧ (s.evtp = .dataNack → s.dir = false) ∧
    (s.evtp = .done → s.dir = true → s.ridx = s.len ∧ s.rxv = false) ∧
    (s.busy = false → s.evt = .done → s.dir = true → s.ridx = s.len) ∧
    (s.cflag = true → s.evt ≠ .none ∧ s.busy = false) ∧
    (s.fes = .idle → s.sclO = true ∧ s.sdaO = true ∧ s.claimed = false) ∧
    (s.fes = .held → s.sclO = false ∧ s.sdaO = true ∧ s.claimed = true) ∧
    (s.busy = true → 1 ≤ s.len.toNat ∧ s.len.toNat ≤ (if s.dir then s.par.rxCap else s.par.txCap))

/-- R31 to R35, R60, R292: the parameters never change; the lifecycle leaves `Uninit` at most once and by no other way than `INIT`; pins, frequency
and the three enabling bits change only then, and the bits are never cleared but by reset. -/
def Obligations.ConfigurationChangesOnceOnly : Prop :=
  ∀ (m : Move) (s t : State), perform m s = .next t →
    t.par = s.par ∧
    (isReset m = false →
      (s.lc ≠ .uninit → t.lc = s.lc ∧ t.sclpin = s.sclpin ∧ t.sdapin = s.sdapin ∧ t.freq = s.freq
        ∧ t.hreg = s.hreg ∧ t.ien = s.ien ∧ t.en = s.en) ∧
      (t.lc = .uninit ∨ t.lc = .failed → t.sclpin = s.sclpin ∧ t.sdapin = s.sdapin ∧ t.freq = s.freq
        ∧ t.hreg = s.hreg ∧ t.ien = s.ien ∧ t.en = s.en) ∧
      (s.hreg = true → t.hreg = true) ∧ (s.ien = true → t.ien = true) ∧ (s.en = true → t.en = true) ∧
      (t.lc ≠ s.lc → s.lock = false ∧ (m = .host ∨ ∃ e, m = .edge e ∧ e.cmdValid = true))) ∧
    ∀ (i : Instr) (u : State), exec i s = .next u → u.lc ≠ s.lc → ∃ scl sda f, i = .init scl sda f

/-- R38, R39, R41, R44, R45, R62: who writes the flag, the events and the arbiter bits. Only the completion unit sets `CFLAG`, writes `EVT`, clears
`BUSY` and clears a pending event; only the engine raises one; only the host and the sequencer touch `ARMED`, clear `CFLAG` and set `BUSY`. -/
def Obligations.FlagsHaveTheStatedWriters : Prop :=
  (∀ (m : Move) (s t : State), isReset m = false → (∀ e, m ≠ .edge e) → perform m s = .next t →
    (t.evt ≠ s.evt ∨ (s.cflag = false ∧ t.cflag = true) ∨ (s.busy = true ∧ t.busy = false) ∨ (s.evtp ≠ .none ∧ t.evtp = .none)
      → m = .cb) ∧
    ((s.cflag = true ∧ t.cflag = false) ∨ t.armed ≠ s.armed ∨ (s.busy = false ∧ t.busy = true) ∨ t.lock ≠ s.lock
      ∨ t.tcnt ≠ s.tcnt ∨ t.res ≠ s.res ∨ t.rej ≠ s.rej → m = .host ∨ m = .seq) ∧
    ((s.evtp = .none ∧ t.evtp ≠ .none) ∨ t.claimed ≠ s.claimed ∨ (s.rxv = false ∧ t.rxv = true) ∨ t.sclO ≠ s.sclO ∨ t.sdaO ≠ s.sdaO
      → ∃ sclT sdaT, m = .fe sclT sdaT)) ∧
  ∀ (i : Instr) (s t : State), s.lock = false → exec i s = .next t →
    t.evt = s.evt ∧ t.evtp = s.evtp ∧ t.claimed = s.claimed ∧ t.sclO = s.sclO ∧ t.sdaO = s.sdaO ∧ t.rxb = s.rxb ∧
    (t.cflag ≠ s.cflag → t.cflag = false ∧ (i = .frst ∨ ∃ x y, i = .wreg x y ∨ i = .wblk x y ∨ i = .rblk x y)) ∧
    (t.armed = true → s.armed = false → i = .frst ∨ ∃ x y, i = .wreg x y ∨ i = .wblk x y ∨ i = .rblk x y) ∧
    (t.busy ≠ s.busy → t.busy = true ∧ t.armed = false ∧ ((∃ a n, i = .submitW a n ∨ i = .submitWN a n ∨ i = .submitR a n)
      ∨ ∃ x y, i = .wreg x y ∨ i = .wblk x y ∨ i = .rblk x y)) ∧
    (t.lock ≠ s.lock → t.lock = true ∧ ((∃ b, i = .wait b) ∨ ∃ x y, i = .wreg x y ∨ i = .wblk x y ∨ i = .rblk x y)) ∧
    (t.rxv ≠ s.rxv → t.rxv = false ∧ ∃ a n, i = .submitR a n) ∧
    (t.tbudget ≠ s.tbudget → ∃ b, i = .stmo b)

/-- R47, R48, R49, R96: only the mover writes `RXB`; only the host's commands write `TXB`, and not a byte of it while a write frame is outstanding;
the frame descriptor is written only by the step that accepts a frame. -/
def Obligations.BuffersAndDescriptorHaveTheStatedWriters : Prop :=
  ∀ (m : Move) (s t : State), Inv s → isReset m = false → perform m s = .next t →
    (t.rxb ≠ s.rxb → s.rxv = true ∧ (m = .mover ∨ ∃ e, m = .edge e ∧ e.moverGo = true)) ∧
    (t.txb ≠ s.txb → s.lock = false ∧ (m = .host ∨ ∃ e, m = .edge e ∧ e.cmdValid = true)) ∧
    (s.busy = true → s.dir = false → t.txb = s.txb) ∧
    (s.busy = true → t.dir = s.dir ∧ t.nostop = s.nostop ∧ t.addr = s.addr ∧ t.len = s.len) ∧
    (t.dir ≠ s.dir ∨ t.nostop ≠ s.nostop ∨ t.addr ≠ s.addr ∨ t.len ≠ s.len → s.busy = false ∧ t.busy = true)

/-- R236: while a frame is outstanding every transaction is rejected Busy and leaves the frame alone, every primitive having cleared the flag; the
frame's delivery then sets the flag, writes its event and clears `BUSY` as always; and the next primitive starts from a cleared flag. -/
def Obligations.AnOrphanFrameBlocksNewTransactions : Prop :=
  ∀ (s : State) (a : BusAddr) (x y : Byte), Inv s → s.busy = true →
    (∀ i ∈ [Instr.submitW a x, .submitWN a x, .submitR a x, .submitRN a x, .wreg x y, .wblk x y, .rblk x y],
      ∃ t, exec i s = .next t ∧ t.rsp = some 0x00000021 ∧ t.busy = true ∧ t.fes = s.fes ∧ t.sym = s.sym ∧ t.phi = s.phi
        ∧ t.evtp = s.evtp ∧ t.len = s.len ∧ t.txb = s.txb ∧ (i ∈ [Instr.wreg x y, .wblk x y, .rblk x y] → t.cflag = false)) ∧
    (s.evtp ≠ .none → ∃ t, perform .cb s = .next t ∧ t.cflag = true ∧ t.evt = s.evtp ∧ t.busy = false ∧ t.evtp = .none ∧
      ∀ i ∈ [Instr.wreg x y, .wblk x y, .rblk x y], ∀ u, exec i t = .next u → u.cflag = false)

/-! ## The clocked block -/

/-- R322: steps on the same `clk` edge: an iteration with a delivery on its edge reads the old flag; a flag reset on that edge is overridden; a
byte that completes while the mover takes the one before it is an overrun all the same, and the mover's byte is stored; host and sequencer never
step on the same edge. -/
def Obligations.StepsOnOneEdgeTakeTheStatedOrder : Prop :=
  ∀ (s : State) (e : EdgeIn), Inv s → e.rstN = true →
    (s.evtp ≠ .none → e.cbGo = true → s.seq = .waitW → s.cflag = false →
      ∃ t, perform (.edge e) s = .next t ∧ t.cflag = true ∧ t.evt = s.evtp ∧ t.busy = false ∧ t.tcnt = s.tcnt - 1 ∧
        (s.tcnt = 1 → t.lock = false ∧ t.res = .timeout) ∧ (s.tcnt ≠ 1 → t.lock = true ∧ t.seq = .waitW)) ∧
    (s.evtp ≠ .none → e.cbGo = true → e.cmdValid = true → s.lock = false → s.job = none → ∀ rest,
      s.prog = .word 0x20000000 :: rest →
      ∃ t, perform (.edge e) s = .next t ∧ t.cflag = true ∧ t.busy = false ∧ t.armed = false ∧ t.rsp = some 0x00000000) ∧
    (s.fes = .run → s.sym = .rxbit → s.phi = 3 → s.bitc = 0 → s.qcnt = 1 → s.rxv = true → e.moverGo = true →
      ∃ t, perform (.edge e) s = .next t ∧ t.errc = .overrun ∧ t.rxv = false ∧ Memory.get t.rxb s.ridx.toNat = some s.rxd) ∧
    (s.lock = true → ∀ v, perform (.edge { e with cmdValid := v }) s = perform (.edge e) s)

/-- R362: the engine's clock: in an SCL-release phase with SCL held nothing counts; on every other edge that is not the phase's last `QCNT` counts
down with the phase's lines out; and the edges that `QCNT` counts make exactly the `fe_step` of the step model, the next phase's lines coming out on
the last edge, or those the frame ends with. Outside an SCL-release phase SCL may be held on any of them. Stated with the other agents standing;
that the lines of the phase in progress are out before its last edge is log entry 10. -/
def Obligations.APhaseTakesItsClockCycles : Prop :=
  ∀ (s : State) (e : EdgeIn), Inv s → s.fes = .run → s.lock = false →
    e.rstN = true → e.cmdValid = false → e.moverGo = false → e.cbGo = false →
    ∃ scl sda, phaseLines s.sym (sentBit s) s.phi = some (scl, sda) ∧
    (e.sclT = false → s.phi = 1 → s.sym ≠ .s → perform (.edge e) s = .next { s with sclO := scl, sdaO := sda }) ∧
    (e.sclT = true ∨ s.phi ≠ 1 ∨ s.sym = .s →
      (1 < s.qcnt → perform (.edge e) s = .next { s with sclO := scl, sdaO := sda, qcnt := s.qcnt - 1 }) ∧
      ∃ t a b, perform (.fe e.sclT e.sdaT) s = .next t ∧
        runMoves (List.replicate s.qcnt (.edge e)) s = .next { t with sclO := a, sdaO := b } ∧
        (t.fes = .run → t.qcnt = s.par.div s.freq ∧ phaseLines t.sym (sentBit t) t.phi = some (a, b)) ∧
        (t.fes ≠ .run → a = t.sclO ∧ b = t.sdaO))

/-! ## Frames -/

/-- R160, R161, R191: the frame function for write frames: from the launch, a target that answers the address byte with `aack` and data byte `i` with
`dacks[i]`, and otherwise leaves the lines alone, makes the frame end in the stated event, with STOP, or with the bus claimed when `NOSTOP = 1`
and every byte was acknowledged. Buffers keep their contents and nothing is received. -/
def Obligations.WriteFramesEndAsTheFrameFunctionSays : Prop :=
  ∀ (s : State) (aack : Bool) (dacks : List Bool),
    Inv s → s.fes = .run → s.sym = .s ∨ s.sym = .sr → s.phi = 0 → s.dir = false → dacks.length = s.len.toNat →
    ∃ t, runMoves (writeFrameMoves s.claimed s.nostop aack dacks) s = .next t ∧
      t.evtp = (if aack then .addressNack else if true ∈ dacks then .dataNack else .done) ∧
      (aack = false → true ∉ dacks → s.nostop = true → t.fes = .held ∧ t.claimed = true ∧ t.sclO = false ∧ t.sdaO = true) ∧
      (aack = true ∨ true ∈ dacks ∨ s.nostop = false → t.fes = .idle ∧ t.claimed = false ∧ t.sclO = true ∧ t.sdaO = true) ∧
      t.busy = true ∧ t.cflag = s.cflag ∧ t.txb = s.txb ∧ t.rxb = s.rxb ∧
      (aack = false → true ∉ dacks →
        (writeFrameMoves s.claimed s.nostop aack dacks).length = framePhases s.claimed s.nostop s.len.toNat)

/-- R160, R97: the frame function for read frames: with the mover in time for every byte the frame ends in `Done` with every byte in its place in
`RXB` and the other bytes untouched; with the address not acknowledged it ends in `AddressNack`. Always with STOP. -/
def Obligations.ReadFramesDeliverTheirBytes : Prop :=
  ∀ (s : State) (aack : Bool) (rdata : List Byte),
    Inv s → s.fes = .run → s.sym = .s ∨ s.sym = .sr → s.phi = 0 → s.dir = true → rdata.length = s.len.toNat →
    ∃ t, runMoves (readFrameMoves s.claimed aack rdata) s = .next t ∧
      t.fes = .idle ∧ t.claimed = false ∧ t.sclO = true ∧ t.sdaO = true ∧ t.rxv = false ∧ t.busy = true ∧
      t.evtp = (if aack then .addressNack else .done) ∧
      (aack = false → ∀ j, Memory.get t.rxb j = if j < rdata.length then rdata[j]? else Memory.get s.rxb j) ∧
      (aack = true → t.rxb = s.rxb)

/-- R154, R160: the frame function for a late mover: when a byte is complete and the one before it still lies in the holding register, the frame
ends in `Overrun`, with a NACK and STOP, whatever bytes were still to come; the bytes moved before stay moved and the other two are not stored. -/
def Obligations.ALateMoverEndsTheReadInOverrun : Prop :=
  ∀ (s : State) (moved : List Byte) (late lost : Byte),
    Inv s → s.fes = .run → s.sym = .s ∨ s.sym = .sr → s.phi = 0 → s.dir = true → moved.length + 2 ≤ s.len.toNat →
    ∃ t, runMoves (lateReadFrameMoves s.claimed moved late lost) s = .next t ∧
      t.evtp = .overrun ∧ t.fes = .idle ∧ t.claimed = false ∧ t.sclO = true ∧ t.sdaO = true ∧ t.rxv = false ∧
      ∀ j, Memory.get t.rxb j = if j < moved.length then moved[j]? else Memory.get s.rxb j

/-- R86, R87, R88, R152, R160: what a bus monitor sees of a write frame: START, the address byte `{ADDR, 0}` and its answer, the bytes of `TXB` in
ascending index, each most significant bit first and with its answer, up to the first NACK, and STOP, or no STOP when the bus stays claimed. -/
def Obligations.WriteFramesCarryTheirBytesOnTheBus : Prop :=
  ∀ (s : State) (aack : Bool) (dacks : List Bool) (bytes : List Byte),
    Inv s → s.fes = .run → s.sym = .s ∨ s.sym = .sr → s.phi = 0 → s.dir = false → dacks.length = s.len.toNat →
    bytes.length = s.len.toNat → (∀ j < bytes.length, Memory.get s.txb j = bytes[j]?) →
    monitor (s.sclO, s.sdaO) true (busLevels (writeFrameMoves s.claimed s.nostop aack dacks) s) =
      .start :: (byteSymbols (s.addr ++ (0 : BitVec 1)) aack ++ (if aack then [] else dataSymbols (bytes.zip dacks))
        ++ (if aack = false ∧ true ∉ dacks ∧ s.nostop = true then [] else [.stop]))

/-! ## The host's sequences -/

/-- R277, R281: `INITSENSOR`: the commands it presents, in their order, whatever is answered to all but the first; every failure is logged with its
operation, code and cause, in order, and none but `INIT`'s ends the sequence. Given for the responses one after another, `after k` being the
state once `k` are in. How the sequence is held in the state is log entry 13. -/
def Obligations.InitSensorIsBestEffort : Prop :=
  ∀ (s : State) (scl sda : Byte) (f : FreqCode), s.job = some (.initSensor .init scl sda f) →
    (∀ r : Word, r.extractLsb' 0 4 ≠ 0 →
      hostReceive { s with rsp := some r } = { s with
        rsp := some r, job := none, hostResult := some .initFailed,
        hostLog := s.hostLog ++ [⟨.init, r.extractLsb' 0 4, r.extractLsb' 4 4⟩] }) ∧
    ∀ (r0 r1 r2 r3 : Word) (stored : List Word), r0.extractLsb' 0 4 = 0 → stored.length = s.par.cfgLen →
      let after (k : Nat) : State :=
        ((r0 :: r1 :: r2 :: stored ++ [r3]).take k).foldl (fun u r => hostReceive { u with rsp := some r }) s
      let presents (k : Nat) (i : Instr) : Prop := ∃ j, (after k).job = some j ∧ jobInstr s.par j = i
      let logged (op : HostOp) (r : Word) : List LogEntry :=
        if r.extractLsb' 0 4 = 0 then [] else [⟨op, r.extractLsb' 0 4, r.extractLsb' 4 4⟩]
      presents 0 (.init scl sda f) ∧ presents 1 (.wreg s.par.sprReg s.par.sprVal) ∧ presents 2 (.wreg s.par.pwrReg s.par.pwrVal) ∧
      (∀ (n : Nat) (b : Byte), s.par.cfgData[n]? = some b → presents (3 + n) (.stb (BitVec.ofNat 8 (1 + n)) b)) ∧
      presents (3 + s.par.cfgLen) (.wblk s.par.cfgBase (BitVec.ofNat 8 s.par.cfgLen)) ∧
      (after (4 + s.par.cfgLen)).job = none ∧ (after (4 + s.par.cfgLen)).hostResult = some .initOk ∧
      (after (4 + s.par.cfgLen)).hostLog =
        s.hostLog ++ logged .resetCommand r1 ++ logged .powerManagement r2 ++ logged .configBlock r3

/-- R282, R283, R284: `RDAXIS`: an error of its `RBLK` is returned unchanged and nothing more is presented; on `Success` it loads six bytes in order
and returns three big-endian signed 16-bit values; the spec's worked example. -/
def Obligations.RdAxisReturnsTheSampleOrTheError : Prop :=
  (∀ s : State, s.job = some .readBlock →
    jobInstr s.par .readBlock = .rblk 0x3B 6 ∧
    (∀ r : Word, r.extractLsb' 0 4 ≠ 0 →
      hostReceive { s with rsp := some r } = { s with rsp := some r, job := none, hostResult := some (.axisError (r.extractLsb' 0 4)) }) ∧
    ∀ (r0 : Word) (b : Vector Byte 6) (rs : Vector Word 6), r0.extractLsb' 0 4 = 0 →
      (∀ k : Fin 6, rs[k].extractLsb' 8 8 = b[k]) →
      let after (k : Nat) : State := ((r0 :: rs.toList).take k).foldl (fun u r => hostReceive { u with rsp := some r }) s
      let value (hi lo : Byte) : Int :=
        if hi.toNat * 256 + lo.toNat < 0x8000 then (hi.toNat * 256 + lo.toNat : Int) else (hi.toNat * 256 + lo.toNat : Int) - 0x10000
      (∀ k : Fin 6, ∃ j, (after (1 + k)).job = some j ∧ jobInstr s.par j = .ldb (BitVec.ofNat 8 k)) ∧
      (after 7).job = none ∧
      (after 7).hostResult = some (.sample (value b[0] b[1]) (value b[2] b[3]) (value b[4] b[5]))) ∧
  axisSample [0x01, 0x02, 0x03, 0x04, 0xFF, 0xFE] = some (.sample 258 772 (-2))

/-! ## Buffers as data -/

/-- R82, R84: the canonical form is canonical: two buffers with the same bytes, and the same bytes never written, are the same data; and writing
twice, or in another order, comes to the same. -/
def Obligations.EqualBuffersAreEqualData : Prop :=
  (∀ m n : Memory, Memory.wf m → Memory.wf n → (∀ j, Memory.get m j = Memory.get n j) → m = n) ∧
  (∀ (m : Memory) (j : Nat) (b c : Byte), Memory.put (Memory.put m j b) j c = Memory.put m j c) ∧
  ∀ (m : Memory) (j k : Nat) (b c : Byte), Memory.wf m → j ≠ k →
    Memory.put (Memory.put m j b) k c = Memory.put (Memory.put m k c) j b
end

