-- ==== Sys2Proof/Laws/Memory.lean ====
section
/-! SUPPORT. The laws of the buffers: a read after a write, and that every operation keeps the canonical form and the capacity. -/

namespace Sys2Proof.Machine

/-- Reading after a write: the byte written at its index, every other byte as before. -/
theorem Memory.get_put (m : Memory) (i j : Nat) (b : Byte) :
    Memory.get (Memory.put m i b) j = if j = i then some b else Memory.get m j := by
  induction m with
  | nil => simp only [Memory.put, Memory.get, eq_comm (a := i)]
  | cons c m ih =>
    obtain ⟨a, v⟩ := c
    simp only [Memory.put]
    split
    · simp only [Memory.get, eq_comm (a := i)]
    · split
      · subst_vars
        by_cases h : a = j
        · simp [Memory.get, h]
        · simp [Memory.get, h, Ne.symm h]
      · by_cases h : a = j
        · have : j ≠ i := by omega
          simp [Memory.get, h, this]
        · simp [Memory.get, ih, h]

@[simp] theorem Memory.get_put_same (m : Memory) (i : Nat) (b : Byte) : Memory.get (Memory.put m i b) i = some b := by
  simp [Memory.get_put]

/-- A cell after a write is the one written or one from before. -/
theorem Memory.mem_put {m : Memory} {i : Nat} {b : Byte} {c : Host.Cell} (h : c ∈ Memory.put m i b) : c = (i, b) ∨ c ∈ m := by
  induction m with
  | nil => simpa [Memory.put] using h
  | cons d m ih =>
    obtain ⟨a, v⟩ := d
    simp only [Memory.put] at h
    split at h
    · simpa using h
    · split at h <;> simp only [List.mem_cons] at h ⊢
      · rcases h with h | h
        · exact .inl h
        · exact .inr (.inr h)
      · rcases h with h | h
        · exact .inr (.inl h)
        · exact (ih h).imp id .inr

/-- A write inside the capacity keeps every index inside it (R80, R81). -/
theorem Memory.put_within {m : Memory} {cap i : Nat} (b : Byte) (h : Memory.within m cap) (hi : i < cap) :
    Memory.within (Memory.put m i b) cap := by
  intro c hc
  rcases Memory.mem_put hc with rfl | hc
  · exact hi
  · exact h c hc

/-- A write keeps the canonical form. -/
theorem Memory.put_wf {m : Memory} (i : Nat) (b : Byte) (h : Memory.wf m) : Memory.wf (Memory.put m i b) := by
  induction m with
  | nil => simp [Memory.put]
  | cons c m ih =>
    obtain ⟨a, v⟩ := c
    rw [Memory.wf, List.pairwise_cons] at h
    simp only [Memory.put]
    split
    · refine List.pairwise_cons.2 ⟨fun d hd => ?_, List.pairwise_cons.2 h⟩
      rcases List.mem_cons.1 hd with rfl | hd
      · assumption
      · exact lt_trans ‹_› (h.1 d hd)
    · split
      · subst_vars
        exact List.pairwise_cons.2 h
      · refine List.pairwise_cons.2 ⟨fun d hd => ?_, ih h.2⟩
        rcases Memory.mem_put hd with rfl | hd
        · show a < i
          omega
        · exact h.1 d hd

/-- The buffers of the reset state are canonical: nothing is listed. -/
theorem resetOf_buffers_wf (p : Params) : Memory.wf (State.resetOf p).txb ∧ Memory.wf (State.resetOf p).rxb := by
  simp [State.resetOf]

theorem reset_buffers_wf : Memory.wf State.reset.txb ∧ Memory.wf State.reset.rxb := resetOf_buffers_wf _

/-- A byte that is listed is read without a draw. -/
theorem Memory.read_of_get {m : Memory} {i : Nat} {b : Byte} (n : Nat) (h : Memory.get m i = some b) :
    Memory.read m i n = b ∧ Memory.drawsAfter m i n = n := by
  simp [Memory.read, Memory.drawsAfter, h]

/-- A byte that nothing has written is read with one draw. -/
theorem Memory.read_of_none {m : Memory} {i : Nat} (n : Nat) (h : Memory.get m i = none) :
    Memory.read m i n = Memory.unwritten n ∧ Memory.drawsAfter m i n = n + 1 := by
  simp [Memory.read, Memory.drawsAfter, h]

end Sys2Proof.Machine
end

