-- ==== Sys2Proof/Laws/State.lean ====
section
/-! SUPPORT. What each shared update of the state does to each field: one lemma per field per update, true by definition, so that no later proof
unfolds a record update. -/

namespace Sys2Proof.Machine

/-! ### `answer` -/

@[simp] theorem answer_par (c : Code) (r : Rej) (d : Imm24) (s : State) : (answer c r d s).par = s.par := rfl
@[simp] theorem answer_lc (c : Code) (r : Rej) (d : Imm24) (s : State) : (answer c r d s).lc = s.lc := rfl
@[simp] theorem answer_sclpin (c : Code) (r : Rej) (d : Imm24) (s : State) : (answer c r d s).sclpin = s.sclpin := rfl
@[simp] theorem answer_sdapin (c : Code) (r : Rej) (d : Imm24) (s : State) : (answer c r d s).sdapin = s.sdapin := rfl
@[simp] theorem answer_freq (c : Code) (r : Rej) (d : Imm24) (s : State) : (answer c r d s).freq = s.freq := rfl
@[simp] theorem answer_hreg (c : Code) (r : Rej) (d : Imm24) (s : State) : (answer c r d s).hreg = s.hreg := rfl
@[simp] theorem answer_ien (c : Code) (r : Rej) (d : Imm24) (s : State) : (answer c r d s).ien = s.ien := rfl
@[simp] theorem answer_en (c : Code) (r : Rej) (d : Imm24) (s : State) : (answer c r d s).en = s.en := rfl
@[simp] theorem answer_lock (c : Code) (r : Rej) (d : Imm24) (s : State) : (answer c r d s).lock = s.lock := rfl
@[simp] theorem answer_armed (c : Code) (r : Rej) (d : Imm24) (s : State) : (answer c r d s).armed = s.armed := rfl
@[simp] theorem answer_busy (c : Code) (r : Rej) (d : Imm24) (s : State) : (answer c r d s).busy = s.busy := rfl
@[simp] theorem answer_cflag (c : Code) (r : Rej) (d : Imm24) (s : State) : (answer c r d s).cflag = s.cflag := rfl
@[simp] theorem answer_tbudget (c : Code) (r : Rej) (d : Imm24) (s : State) : (answer c r d s).tbudget = s.tbudget := rfl
@[simp] theorem answer_tcnt (c : Code) (r : Rej) (d : Imm24) (s : State) : (answer c r d s).tcnt = s.tcnt := rfl
@[simp] theorem answer_evt (c : Code) (r : Rej) (d : Imm24) (s : State) : (answer c r d s).evt = s.evt := rfl
@[simp] theorem answer_evtp (c : Code) (r : Rej) (d : Imm24) (s : State) : (answer c r d s).evtp = s.evtp := rfl
@[simp] theorem answer_res (c : Code) (r : Rej) (d : Imm24) (s : State) : (answer c r d s).res = c := rfl
@[simp] theorem answer_rej (c : Code) (r : Rej) (d : Imm24) (s : State) : (answer c r d s).rej = r := rfl
@[simp] theorem answer_txb (c : Code) (r : Rej) (d : Imm24) (s : State) : (answer c r d s).txb = s.txb := rfl
@[simp] theorem answer_rxb (c : Code) (r : Rej) (d : Imm24) (s : State) : (answer c r d s).rxb = s.rxb := rfl
@[simp] theorem answer_dir (c : Code) (r : Rej) (d : Imm24) (s : State) : (answer c r d s).dir = s.dir := rfl
@[simp] theorem answer_nostop (c : Code) (r : Rej) (d : Imm24) (s : State) : (answer c r d s).nostop = s.nostop := rfl
@[simp] theorem answer_addr (c : Code) (r : Rej) (d : Imm24) (s : State) : (answer c r d s).addr = s.addr := rfl
@[simp] theorem answer_len (c : Code) (r : Rej) (d : Imm24) (s : State) : (answer c r d s).len = s.len := rfl
@[simp] theorem answer_idx (c : Code) (r : Rej) (d : Imm24) (s : State) : (answer c r d s).idx = s.idx := rfl
@[simp] theorem answer_bitc (c : Code) (r : Rej) (d : Imm24) (s : State) : (answer c r d s).bitc = s.bitc := rfl
@[simp] theorem answer_shift (c : Code) (r : Rej) (d : Imm24) (s : State) : (answer c r d s).shift = s.shift := rfl
@[simp] theorem answer_errc (c : Code) (r : Rej) (d : Imm24) (s : State) : (answer c r d s).errc = s.errc := rfl
@[simp] theorem answer_samp (c : Code) (r : Rej) (d : Imm24) (s : State) : (answer c r d s).samp = s.samp := rfl
@[simp] theorem answer_fes (c : Code) (r : Rej) (d : Imm24) (s : State) : (answer c r d s).fes = s.fes := rfl
@[simp] theorem answer_claimed (c : Code) (r : Rej) (d : Imm24) (s : State) : (answer c r d s).claimed = s.claimed := rfl
@[simp] theorem answer_seq (c : Code) (r : Rej) (d : Imm24) (s : State) : (answer c r d s).seq = s.seq := rfl
@[simp] theorem answer_rlen (c : Code) (r : Rej) (d : Imm24) (s : State) : (answer c r d s).rlen = s.rlen := rfl
@[simp] theorem answer_sym (c : Code) (r : Rej) (d : Imm24) (s : State) : (answer c r d s).sym = s.sym := rfl
@[simp] theorem answer_phi (c : Code) (r : Rej) (d : Imm24) (s : State) : (answer c r d s).phi = s.phi := rfl
@[simp] theorem answer_rxd (c : Code) (r : Rej) (d : Imm24) (s : State) : (answer c r d s).rxd = s.rxd := rfl
@[simp] theorem answer_rxv (c : Code) (r : Rej) (d : Imm24) (s : State) : (answer c r d s).rxv = s.rxv := rfl
@[simp] theorem answer_ridx (c : Code) (r : Rej) (d : Imm24) (s : State) : (answer c r d s).ridx = s.ridx := rfl
@[simp] theorem answer_sclO (c : Code) (r : Rej) (d : Imm24) (s : State) : (answer c r d s).sclO = s.sclO := rfl
@[simp] theorem answer_sdaO (c : Code) (r : Rej) (d : Imm24) (s : State) : (answer c r d s).sdaO = s.sdaO := rfl
@[simp] theorem answer_qcnt (c : Code) (r : Rej) (d : Imm24) (s : State) : (answer c r d s).qcnt = s.qcnt := rfl
@[simp] theorem answer_rsp (c : Code) (r : Rej) (d : Imm24) (s : State) : (answer c r d s).rsp = some (responseWord c r d) := rfl
@[simp] theorem answer_prog (c : Code) (r : Rej) (d : Imm24) (s : State) : (answer c r d s).prog = s.prog := rfl
@[simp] theorem answer_job (c : Code) (r : Rej) (d : Imm24) (s : State) : (answer c r d s).job = s.job := rfl
@[simp] theorem answer_hostResult (c : Code) (r : Rej) (d : Imm24) (s : State) : (answer c r d s).hostResult = s.hostResult := rfl
@[simp] theorem answer_hostLog (c : Code) (r : Rej) (d : Imm24) (s : State) : (answer c r d s).hostLog = s.hostLog := rfl
@[simp] theorem answer_agenda (c : Code) (r : Rej) (d : Imm24) (s : State) : (answer c r d s).agenda = s.agenda := rfl
@[simp] theorem answer_draws (c : Code) (r : Rej) (d : Imm24) (s : State) : (answer c r d s).draws = s.draws := rfl

/-! ### `answerOnly` -/

@[simp] theorem answerOnly_par (d : Imm24) (s : State) : (answerOnly d s).par = s.par := rfl
@[simp] theorem answerOnly_lc (d : Imm24) (s : State) : (answerOnly d s).lc = s.lc := rfl
@[simp] theorem answerOnly_sclpin (d : Imm24) (s : State) : (answerOnly d s).sclpin = s.sclpin := rfl
@[simp] theorem answerOnly_sdapin (d : Imm24) (s : State) : (answerOnly d s).sdapin = s.sdapin := rfl
@[simp] theorem answerOnly_freq (d : Imm24) (s : State) : (answerOnly d s).freq = s.freq := rfl
@[simp] theorem answerOnly_hreg (d : Imm24) (s : State) : (answerOnly d s).hreg = s.hreg := rfl
@[simp] theorem answerOnly_ien (d : Imm24) (s : State) : (answerOnly d s).ien = s.ien := rfl
@[simp] theorem answerOnly_en (d : Imm24) (s : State) : (answerOnly d s).en = s.en := rfl
@[simp] theorem answerOnly_lock (d : Imm24) (s : State) : (answerOnly d s).lock = s.lock := rfl
@[simp] theorem answerOnly_armed (d : Imm24) (s : State) : (answerOnly d s).armed = s.armed := rfl
@[simp] theorem answerOnly_busy (d : Imm24) (s : State) : (answerOnly d s).busy = s.busy := rfl
@[simp] theorem answerOnly_cflag (d : Imm24) (s : State) : (answerOnly d s).cflag = s.cflag := rfl
@[simp] theorem answerOnly_tbudget (d : Imm24) (s : State) : (answerOnly d s).tbudget = s.tbudget := rfl
@[simp] theorem answerOnly_tcnt (d : Imm24) (s : State) : (answerOnly d s).tcnt = s.tcnt := rfl
@[simp] theorem answerOnly_evt (d : Imm24) (s : State) : (answerOnly d s).evt = s.evt := rfl
@[simp] theorem answerOnly_evtp (d : Imm24) (s : State) : (answerOnly d s).evtp = s.evtp := rfl
@[simp] theorem answerOnly_res (d : Imm24) (s : State) : (answerOnly d s).res = s.res := rfl
@[simp] theorem answerOnly_rej (d : Imm24) (s : State) : (answerOnly d s).rej = s.rej := rfl
@[simp] theorem answerOnly_txb (d : Imm24) (s : State) : (answerOnly d s).txb = s.txb := rfl
@[simp] theorem answerOnly_rxb (d : Imm24) (s : State) : (answerOnly d s).rxb = s.rxb := rfl
@[simp] theorem answerOnly_dir (d : Imm24) (s : State) : (answerOnly d s).dir = s.dir := rfl
@[simp] theorem answerOnly_nostop (d : Imm24) (s : State) : (answerOnly d s).nostop = s.nostop := rfl
@[simp] theorem answerOnly_addr (d : Imm24) (s : State) : (answerOnly d s).addr = s.addr := rfl
@[simp] theorem answerOnly_len (d : Imm24) (s : State) : (answerOnly d s).len = s.len := rfl
@[simp] theorem answerOnly_idx (d : Imm24) (s : State) : (answerOnly d s).idx = s.idx := rfl
@[simp] theorem answerOnly_bitc (d : Imm24) (s : State) : (answerOnly d s).bitc = s.bitc := rfl
@[simp] theorem answerOnly_shift (d : Imm24) (s : State) : (answerOnly d s).shift = s.shift := rfl
@[simp] theorem answerOnly_errc (d : Imm24) (s : State) : (answerOnly d s).errc = s.errc := rfl
@[simp] theorem answerOnly_samp (d : Imm24) (s : State) : (answerOnly d s).samp = s.samp := rfl
@[simp] theorem answerOnly_fes (d : Imm24) (s : State) : (answerOnly d s).fes = s.fes := rfl
@[simp] theorem answerOnly_claimed (d : Imm24) (s : State) : (answerOnly d s).claimed = s.claimed := rfl
@[simp] theorem answerOnly_seq (d : Imm24) (s : State) : (answerOnly d s).seq = s.seq := rfl
@[simp] theorem answerOnly_rlen (d : Imm24) (s : State) : (answerOnly d s).rlen = s.rlen := rfl
@[simp] theorem answerOnly_sym (d : Imm24) (s : State) : (answerOnly d s).sym = s.sym := rfl
@[simp] theorem answerOnly_phi (d : Imm24) (s : State) : (answerOnly d s).phi = s.phi := rfl
@[simp] theorem answerOnly_rxd (d : Imm24) (s : State) : (answerOnly d s).rxd = s.rxd := rfl
@[simp] theorem answerOnly_rxv (d : Imm24) (s : State) : (answerOnly d s).rxv = s.rxv := rfl
@[simp] theorem answerOnly_ridx (d : Imm24) (s : State) : (answerOnly d s).ridx = s.ridx := rfl
@[simp] theorem answerOnly_sclO (d : Imm24) (s : State) : (answerOnly d s).sclO = s.sclO := rfl
@[simp] theorem answerOnly_sdaO (d : Imm24) (s : State) : (answerOnly d s).sdaO = s.sdaO := rfl
@[simp] theorem answerOnly_qcnt (d : Imm24) (s : State) : (answerOnly d s).qcnt = s.qcnt := rfl
@[simp] theorem answerOnly_rsp (d : Imm24) (s : State) : (answerOnly d s).rsp = some (responseWord .success .none d) := rfl
@[simp] theorem answerOnly_prog (d : Imm24) (s : State) : (answerOnly d s).prog = s.prog := rfl
@[simp] theorem answerOnly_job (d : Imm24) (s : State) : (answerOnly d s).job = s.job := rfl
@[simp] theorem answerOnly_hostResult (d : Imm24) (s : State) : (answerOnly d s).hostResult = s.hostResult := rfl
@[simp] theorem answerOnly_hostLog (d : Imm24) (s : State) : (answerOnly d s).hostLog = s.hostLog := rfl
@[simp] theorem answerOnly_agenda (d : Imm24) (s : State) : (answerOnly d s).agenda = s.agenda := rfl
@[simp] theorem answerOnly_draws (d : Imm24) (s : State) : (answerOnly d s).draws = s.draws := rfl

/-! ### `flagReset` -/

@[simp] theorem flagReset_par (s : State) : (flagReset s).par = s.par := rfl
@[simp] theorem flagReset_lc (s : State) : (flagReset s).lc = s.lc := rfl
@[simp] theorem flagReset_sclpin (s : State) : (flagReset s).sclpin = s.sclpin := rfl
@[simp] theorem flagReset_sdapin (s : State) : (flagReset s).sdapin = s.sdapin := rfl
@[simp] theorem flagReset_freq (s : State) : (flagReset s).freq = s.freq := rfl
@[simp] theorem flagReset_hreg (s : State) : (flagReset s).hreg = s.hreg := rfl
@[simp] theorem flagReset_ien (s : State) : (flagReset s).ien = s.ien := rfl
@[simp] theorem flagReset_en (s : State) : (flagReset s).en = s.en := rfl
@[simp] theorem flagReset_lock (s : State) : (flagReset s).lock = s.lock := rfl
@[simp] theorem flagReset_armed (s : State) : (flagReset s).armed = !s.busy := rfl
@[simp] theorem flagReset_busy (s : State) : (flagReset s).busy = s.busy := rfl
@[simp] theorem flagReset_cflag (s : State) : (flagReset s).cflag = false := rfl
@[simp] theorem flagReset_tbudget (s : State) : (flagReset s).tbudget = s.tbudget := rfl
@[simp] theorem flagReset_tcnt (s : State) : (flagReset s).tcnt = s.tcnt := rfl
@[simp] theorem flagReset_evt (s : State) : (flagReset s).evt = s.evt := rfl
@[simp] theorem flagReset_evtp (s : State) : (flagReset s).evtp = s.evtp := rfl
@[simp] theorem flagReset_res (s : State) : (flagReset s).res = s.res := rfl
@[simp] theorem flagReset_rej (s : State) : (flagReset s).rej = s.rej := rfl
@[simp] theorem flagReset_txb (s : State) : (flagReset s).txb = s.txb := rfl
@[simp] theorem flagReset_rxb (s : State) : (flagReset s).rxb = s.rxb := rfl
@[simp] theorem flagReset_dir (s : State) : (flagReset s).dir = s.dir := rfl
@[simp] theorem flagReset_nostop (s : State) : (flagReset s).nostop = s.nostop := rfl
@[simp] theorem flagReset_addr (s : State) : (flagReset s).addr = s.addr := rfl
@[simp] theorem flagReset_len (s : State) : (flagReset s).len = s.len := rfl
@[simp] theorem flagReset_idx (s : State) : (flagReset s).idx = s.idx := rfl
@[simp] theorem flagReset_bitc (s : State) : (flagReset s).bitc = s.bitc := rfl
@[simp] theorem flagReset_shift (s : State) : (flagReset s).shift = s.shift := rfl
@[simp] theorem flagReset_errc (s : State) : (flagReset s).errc = s.errc := rfl
@[simp] theorem flagReset_samp (s : State) : (flagReset s).samp = s.samp := rfl
@[simp] theorem flagReset_fes (s : State) : (flagReset s).fes = s.fes := rfl
@[simp] theorem flagReset_claimed (s : State) : (flagReset s).claimed = s.claimed := rfl
@[simp] theorem flagReset_seq (s : State) : (flagReset s).seq = s.seq := rfl
@[simp] theorem flagReset_rlen (s : State) : (flagReset s).rlen = s.rlen := rfl
@[simp] theorem flagReset_sym (s : State) : (flagReset s).sym = s.sym := rfl
@[simp] theorem flagReset_phi (s : State) : (flagReset s).phi = s.phi := rfl
@[simp] theorem flagReset_rxd (s : State) : (flagReset s).rxd = s.rxd := rfl
@[simp] theorem flagReset_rxv (s : State) : (flagReset s).rxv = s.rxv := rfl
@[simp] theorem flagReset_ridx (s : State) : (flagReset s).ridx = s.ridx := rfl
@[simp] theorem flagReset_sclO (s : State) : (flagReset s).sclO = s.sclO := rfl
@[simp] theorem flagReset_sdaO (s : State) : (flagReset s).sdaO = s.sdaO := rfl
@[simp] theorem flagReset_qcnt (s : State) : (flagReset s).qcnt = s.qcnt := rfl
@[simp] theorem flagReset_rsp (s : State) : (flagReset s).rsp = s.rsp := rfl
@[simp] theorem flagReset_prog (s : State) : (flagReset s).prog = s.prog := rfl
@[simp] theorem flagReset_job (s : State) : (flagReset s).job = s.job := rfl
@[simp] theorem flagReset_hostResult (s : State) : (flagReset s).hostResult = s.hostResult := rfl
@[simp] theorem flagReset_hostLog (s : State) : (flagReset s).hostLog = s.hostLog := rfl
@[simp] theorem flagReset_agenda (s : State) : (flagReset s).agenda = s.agenda := rfl
@[simp] theorem flagReset_draws (s : State) : (flagReset s).draws = s.draws := rfl

/-! ### `launch` -/

@[simp] theorem launch_par (dir nostop : Bool) (a : BusAddr) (n : Byte) (s : State) : (launch dir nostop a n s).par = s.par := rfl
@[simp] theorem launch_lc (dir nostop : Bool) (a : BusAddr) (n : Byte) (s : State) : (launch dir nostop a n s).lc = s.lc := rfl
@[simp] theorem launch_sclpin (dir nostop : Bool) (a : BusAddr) (n : Byte) (s : State) : (launch dir nostop a n s).sclpin = s.sclpin := rfl
@[simp] theorem launch_sdapin (dir nostop : Bool) (a : BusAddr) (n : Byte) (s : State) : (launch dir nostop a n s).sdapin = s.sdapin := rfl
@[simp] theorem launch_freq (dir nostop : Bool) (a : BusAddr) (n : Byte) (s : State) : (launch dir nostop a n s).freq = s.freq := rfl
@[simp] theorem launch_hreg (dir nostop : Bool) (a : BusAddr) (n : Byte) (s : State) : (launch dir nostop a n s).hreg = s.hreg := rfl
@[simp] theorem launch_ien (dir nostop : Bool) (a : BusAddr) (n : Byte) (s : State) : (launch dir nostop a n s).ien = s.ien := rfl
@[simp] theorem launch_en (dir nostop : Bool) (a : BusAddr) (n : Byte) (s : State) : (launch dir nostop a n s).en = s.en := rfl
@[simp] theorem launch_lock (dir nostop : Bool) (a : BusAddr) (n : Byte) (s : State) : (launch dir nostop a n s).lock = s.lock := rfl
@[simp] theorem launch_armed (dir nostop : Bool) (a : BusAddr) (n : Byte) (s : State) : (launch dir nostop a n s).armed = false := rfl
@[simp] theorem launch_busy (dir nostop : Bool) (a : BusAddr) (n : Byte) (s : State) : (launch dir nostop a n s).busy = true := rfl
@[simp] theorem launch_cflag (dir nostop : Bool) (a : BusAddr) (n : Byte) (s : State) : (launch dir nostop a n s).cflag = s.cflag := rfl
@[simp] theorem launch_tbudget (dir nostop : Bool) (a : BusAddr) (n : Byte) (s : State) : (launch dir nostop a n s).tbudget = s.tbudget := rfl
@[simp] theorem launch_tcnt (dir nostop : Bool) (a : BusAddr) (n : Byte) (s : State) : (launch dir nostop a n s).tcnt = s.tcnt := rfl
@[simp] theorem launch_evt (dir nostop : Bool) (a : BusAddr) (n : Byte) (s : State) : (launch dir nostop a n s).evt = s.evt := rfl
@[simp] theorem launch_evtp (dir nostop : Bool) (a : BusAddr) (n : Byte) (s : State) : (launch dir nostop a n s).evtp = s.evtp := rfl
@[simp] theorem launch_res (dir nostop : Bool) (a : BusAddr) (n : Byte) (s : State) : (launch dir nostop a n s).res = s.res := rfl
@[simp] theorem launch_rej (dir nostop : Bool) (a : BusAddr) (n : Byte) (s : State) : (launch dir nostop a n s).rej = s.rej := rfl
@[simp] theorem launch_txb (dir nostop : Bool) (a : BusAddr) (n : Byte) (s : State) : (launch dir nostop a n s).txb = s.txb := rfl
@[simp] theorem launch_rxb (dir nostop : Bool) (a : BusAddr) (n : Byte) (s : State) : (launch dir nostop a n s).rxb = s.rxb := rfl
@[simp] theorem launch_dir (dir nostop : Bool) (a : BusAddr) (n : Byte) (s : State) : (launch dir nostop a n s).dir = dir := rfl
@[simp] theorem launch_nostop (dir nostop : Bool) (a : BusAddr) (n : Byte) (s : State) : (launch dir nostop a n s).nostop = nostop := rfl
@[simp] theorem launch_addr (dir nostop : Bool) (a : BusAddr) (n : Byte) (s : State) : (launch dir nostop a n s).addr = a := rfl
@[simp] theorem launch_len (dir nostop : Bool) (a : BusAddr) (n : Byte) (s : State) : (launch dir nostop a n s).len = n := rfl
@[simp] theorem launch_idx (dir nostop : Bool) (a : BusAddr) (n : Byte) (s : State) : (launch dir nostop a n s).idx = 0 := rfl
@[simp] theorem launch_bitc (dir nostop : Bool) (a : BusAddr) (n : Byte) (s : State) : (launch dir nostop a n s).bitc = s.bitc := rfl
@[simp] theorem launch_shift (dir nostop : Bool) (a : BusAddr) (n : Byte) (s : State) : (launch dir nostop a n s).shift = s.shift := rfl
@[simp] theorem launch_errc (dir nostop : Bool) (a : BusAddr) (n : Byte) (s : State) : (launch dir nostop a n s).errc = .none := rfl
@[simp] theorem launch_samp (dir nostop : Bool) (a : BusAddr) (n : Byte) (s : State) : (launch dir nostop a n s).samp = s.samp := rfl
@[simp] theorem launch_fes (dir nostop : Bool) (a : BusAddr) (n : Byte) (s : State) : (launch dir nostop a n s).fes = .run := rfl
@[simp] theorem launch_claimed (dir nostop : Bool) (a : BusAddr) (n : Byte) (s : State) : (launch dir nostop a n s).claimed = s.claimed := rfl
@[simp] theorem launch_seq (dir nostop : Bool) (a : BusAddr) (n : Byte) (s : State) : (launch dir nostop a n s).seq = s.seq := rfl
@[simp] theorem launch_rlen (dir nostop : Bool) (a : BusAddr) (n : Byte) (s : State) : (launch dir nostop a n s).rlen = s.rlen := rfl
@[simp] theorem launch_sym (dir nostop : Bool) (a : BusAddr) (n : Byte) (s : State) : (launch dir nostop a n s).sym = if s.claimed then .sr else .s := rfl
@[simp] theorem launch_phi (dir nostop : Bool) (a : BusAddr) (n : Byte) (s : State) : (launch dir nostop a n s).phi = 0 := rfl
@[simp] theorem launch_rxd (dir nostop : Bool) (a : BusAddr) (n : Byte) (s : State) : (launch dir nostop a n s).rxd = s.rxd := rfl
@[simp] theorem launch_rxv (dir nostop : Bool) (a : BusAddr) (n : Byte) (s : State) : (launch dir nostop a n s).rxv = if dir then false else s.rxv := rfl
@[simp] theorem launch_ridx (dir nostop : Bool) (a : BusAddr) (n : Byte) (s : State) : (launch dir nostop a n s).ridx = if dir then 0 else s.ridx := rfl
@[simp] theorem launch_sclO (dir nostop : Bool) (a : BusAddr) (n : Byte) (s : State) : (launch dir nostop a n s).sclO = s.sclO := rfl
@[simp] theorem launch_sdaO (dir nostop : Bool) (a : BusAddr) (n : Byte) (s : State) : (launch dir nostop a n s).sdaO = s.sdaO := rfl
@[simp] theorem launch_qcnt (dir nostop : Bool) (a : BusAddr) (n : Byte) (s : State) : (launch dir nostop a n s).qcnt = phaseCycles s := rfl
@[simp] theorem launch_rsp (dir nostop : Bool) (a : BusAddr) (n : Byte) (s : State) : (launch dir nostop a n s).rsp = s.rsp := rfl
@[simp] theorem launch_prog (dir nostop : Bool) (a : BusAddr) (n : Byte) (s : State) : (launch dir nostop a n s).prog = s.prog := rfl
@[simp] theorem launch_job (dir nostop : Bool) (a : BusAddr) (n : Byte) (s : State) : (launch dir nostop a n s).job = s.job := rfl
@[simp] theorem launch_hostResult (dir nostop : Bool) (a : BusAddr) (n : Byte) (s : State) : (launch dir nostop a n s).hostResult = s.hostResult := rfl
@[simp] theorem launch_hostLog (dir nostop : Bool) (a : BusAddr) (n : Byte) (s : State) : (launch dir nostop a n s).hostLog = s.hostLog := rfl
@[simp] theorem launch_agenda (dir nostop : Bool) (a : BusAddr) (n : Byte) (s : State) : (launch dir nostop a n s).agenda = s.agenda := rfl
@[simp] theorem launch_draws (dir nostop : Bool) (a : BusAddr) (n : Byte) (s : State) : (launch dir nostop a n s).draws = s.draws := rfl

/-! ### `finish` -/

@[simp] theorem finish_par (c : Code) (s : State) : (finish c s).par = s.par := rfl
@[simp] theorem finish_lc (c : Code) (s : State) : (finish c s).lc = s.lc := rfl
@[simp] theorem finish_sclpin (c : Code) (s : State) : (finish c s).sclpin = s.sclpin := rfl
@[simp] theorem finish_sdapin (c : Code) (s : State) : (finish c s).sdapin = s.sdapin := rfl
@[simp] theorem finish_freq (c : Code) (s : State) : (finish c s).freq = s.freq := rfl
@[simp] theorem finish_hreg (c : Code) (s : State) : (finish c s).hreg = s.hreg := rfl
@[simp] theorem finish_ien (c : Code) (s : State) : (finish c s).ien = s.ien := rfl
@[simp] theorem finish_en (c : Code) (s : State) : (finish c s).en = s.en := rfl
@[simp] theorem finish_lock (c : Code) (s : State) : (finish c s).lock = false := rfl
@[simp] theorem finish_armed (c : Code) (s : State) : (finish c s).armed = s.armed := rfl
@[simp] theorem finish_busy (c : Code) (s : State) : (finish c s).busy = s.busy := rfl
@[simp] theorem finish_cflag (c : Code) (s : State) : (finish c s).cflag = s.cflag := rfl
@[simp] theorem finish_tbudget (c : Code) (s : State) : (finish c s).tbudget = s.tbudget := rfl
@[simp] theorem finish_tcnt (c : Code) (s : State) : (finish c s).tcnt = s.tcnt := rfl
@[simp] theorem finish_evt (c : Code) (s : State) : (finish c s).evt = s.evt := rfl
@[simp] theorem finish_evtp (c : Code) (s : State) : (finish c s).evtp = s.evtp := rfl
@[simp] theorem finish_res (c : Code) (s : State) : (finish c s).res = c := rfl
@[simp] theorem finish_rej (c : Code) (s : State) : (finish c s).rej = .none := rfl
@[simp] theorem finish_txb (c : Code) (s : State) : (finish c s).txb = s.txb := rfl
@[simp] theorem finish_rxb (c : Code) (s : State) : (finish c s).rxb = s.rxb := rfl
@[simp] theorem finish_dir (c : Code) (s : State) : (finish c s).dir = s.dir := rfl
@[simp] theorem finish_nostop (c : Code) (s : State) : (finish c s).nostop = s.nostop := rfl
@[simp] theorem finish_addr (c : Code) (s : State) : (finish c s).addr = s.addr := rfl
@[simp] theorem finish_len (c : Code) (s : State) : (finish c s).len = s.len := rfl
@[simp] theorem finish_idx (c : Code) (s : State) : (finish c s).idx = s.idx := rfl
@[simp] theorem finish_bitc (c : Code) (s : State) : (finish c s).bitc = s.bitc := rfl
@[simp] theorem finish_shift (c : Code) (s : State) : (finish c s).shift = s.shift := rfl
@[simp] theorem finish_errc (c : Code) (s : State) : (finish c s).errc = s.errc := rfl
@[simp] theorem finish_samp (c : Code) (s : State) : (finish c s).samp = s.samp := rfl
@[simp] theorem finish_fes (c : Code) (s : State) : (finish c s).fes = s.fes := rfl
@[simp] theorem finish_claimed (c : Code) (s : State) : (finish c s).claimed = s.claimed := rfl
@[simp] theorem finish_seq (c : Code) (s : State) : (finish c s).seq = .idle := rfl
@[simp] theorem finish_rlen (c : Code) (s : State) : (finish c s).rlen = s.rlen := rfl
@[simp] theorem finish_sym (c : Code) (s : State) : (finish c s).sym = s.sym := rfl
@[simp] theorem finish_phi (c : Code) (s : State) : (finish c s).phi = s.phi := rfl
@[simp] theorem finish_rxd (c : Code) (s : State) : (finish c s).rxd = s.rxd := rfl
@[simp] theorem finish_rxv (c : Code) (s : State) : (finish c s).rxv = s.rxv := rfl
@[simp] theorem finish_ridx (c : Code) (s : State) : (finish c s).ridx = s.ridx := rfl
@[simp] theorem finish_sclO (c : Code) (s : State) : (finish c s).sclO = s.sclO := rfl
@[simp] theorem finish_sdaO (c : Code) (s : State) : (finish c s).sdaO = s.sdaO := rfl
@[simp] theorem finish_qcnt (c : Code) (s : State) : (finish c s).qcnt = s.qcnt := rfl
@[simp] theorem finish_rsp (c : Code) (s : State) : (finish c s).rsp = some (responseWord c .none 0) := rfl
@[simp] theorem finish_prog (c : Code) (s : State) : (finish c s).prog = s.prog := rfl
@[simp] theorem finish_job (c : Code) (s : State) : (finish c s).job = s.job := rfl
@[simp] theorem finish_hostResult (c : Code) (s : State) : (finish c s).hostResult = s.hostResult := rfl
@[simp] theorem finish_hostLog (c : Code) (s : State) : (finish c s).hostLog = s.hostLog := rfl
@[simp] theorem finish_agenda (c : Code) (s : State) : (finish c s).agenda = s.agenda := rfl
@[simp] theorem finish_draws (c : Code) (s : State) : (finish c s).draws = s.draws := rfl

/-! ### `waitTick` -/

@[simp] theorem waitTick_par (s : State) : (waitTick s).par = s.par := rfl
@[simp] theorem waitTick_lc (s : State) : (waitTick s).lc = s.lc := rfl
@[simp] theorem waitTick_sclpin (s : State) : (waitTick s).sclpin = s.sclpin := rfl
@[simp] theorem waitTick_sdapin (s : State) : (waitTick s).sdapin = s.sdapin := rfl
@[simp] theorem waitTick_freq (s : State) : (waitTick s).freq = s.freq := rfl
@[simp] theorem waitTick_hreg (s : State) : (waitTick s).hreg = s.hreg := rfl
@[simp] theorem waitTick_ien (s : State) : (waitTick s).ien = s.ien := rfl
@[simp] theorem waitTick_en (s : State) : (waitTick s).en = s.en := rfl
@[simp] theorem waitTick_lock (s : State) : (waitTick s).lock = s.lock := rfl
@[simp] theorem waitTick_armed (s : State) : (waitTick s).armed = s.armed := rfl
@[simp] theorem waitTick_busy (s : State) : (waitTick s).busy = s.busy := rfl
@[simp] theorem waitTick_cflag (s : State) : (waitTick s).cflag = s.cflag := rfl
@[simp] theorem waitTick_tbudget (s : State) : (waitTick s).tbudget = s.tbudget := rfl
@[simp] theorem waitTick_tcnt (s : State) : (waitTick s).tcnt = countDown s.tcnt := rfl
@[simp] theorem waitTick_evt (s : State) : (waitTick s).evt = s.evt := rfl
@[simp] theorem waitTick_evtp (s : State) : (waitTick s).evtp = s.evtp := rfl
@[simp] theorem waitTick_res (s : State) : (waitTick s).res = s.res := rfl
@[simp] theorem waitTick_rej (s : State) : (waitTick s).rej = s.rej := rfl
@[simp] theorem waitTick_txb (s : State) : (waitTick s).txb = s.txb := rfl
@[simp] theorem waitTick_rxb (s : State) : (waitTick s).rxb = s.rxb := rfl
@[simp] theorem waitTick_dir (s : State) : (waitTick s).dir = s.dir := rfl
@[simp] theorem waitTick_nostop (s : State) : (waitTick s).nostop = s.nostop := rfl
@[simp] theorem waitTick_addr (s : State) : (waitTick s).addr = s.addr := rfl
@[simp] theorem waitTick_len (s : State) : (waitTick s).len = s.len := rfl
@[simp] theorem waitTick_idx (s : State) : (waitTick s).idx = s.idx := rfl
@[simp] theorem waitTick_bitc (s : State) : (waitTick s).bitc = s.bitc := rfl
@[simp] theorem waitTick_shift (s : State) : (waitTick s).shift = s.shift := rfl
@[simp] theorem waitTick_errc (s : State) : (waitTick s).errc = s.errc := rfl
@[simp] theorem waitTick_samp (s : State) : (waitTick s).samp = s.samp := rfl
@[simp] theorem waitTick_fes (s : State) : (waitTick s).fes = s.fes := rfl
@[simp] theorem waitTick_claimed (s : State) : (waitTick s).claimed = s.claimed := rfl
@[simp] theorem waitTick_seq (s : State) : (waitTick s).seq = s.seq := rfl
@[simp] theorem waitTick_rlen (s : State) : (waitTick s).rlen = s.rlen := rfl
@[simp] theorem waitTick_sym (s : State) : (waitTick s).sym = s.sym := rfl
@[simp] theorem waitTick_phi (s : State) : (waitTick s).phi = s.phi := rfl
@[simp] theorem waitTick_rxd (s : State) : (waitTick s).rxd = s.rxd := rfl
@[simp] theorem waitTick_rxv (s : State) : (waitTick s).rxv = s.rxv := rfl
@[simp] theorem waitTick_ridx (s : State) : (waitTick s).ridx = s.ridx := rfl
@[simp] theorem waitTick_sclO (s : State) : (waitTick s).sclO = s.sclO := rfl
@[simp] theorem waitTick_sdaO (s : State) : (waitTick s).sdaO = s.sdaO := rfl
@[simp] theorem waitTick_qcnt (s : State) : (waitTick s).qcnt = s.qcnt := rfl
@[simp] theorem waitTick_rsp (s : State) : (waitTick s).rsp = s.rsp := rfl
@[simp] theorem waitTick_prog (s : State) : (waitTick s).prog = s.prog := rfl
@[simp] theorem waitTick_job (s : State) : (waitTick s).job = s.job := rfl
@[simp] theorem waitTick_hostResult (s : State) : (waitTick s).hostResult = s.hostResult := rfl
@[simp] theorem waitTick_hostLog (s : State) : (waitTick s).hostLog = s.hostLog := rfl
@[simp] theorem waitTick_agenda (s : State) : (waitTick s).agenda = s.agenda := rfl
@[simp] theorem waitTick_draws (s : State) : (waitTick s).draws = s.draws := rfl

/-! ### `deliverCompletion` -/

@[simp] theorem deliverCompletion_par (s : State) : (deliverCompletion s).par = s.par := rfl
@[simp] theorem deliverCompletion_lc (s : State) : (deliverCompletion s).lc = s.lc := rfl
@[simp] theorem deliverCompletion_sclpin (s : State) : (deliverCompletion s).sclpin = s.sclpin := rfl
@[simp] theorem deliverCompletion_sdapin (s : State) : (deliverCompletion s).sdapin = s.sdapin := rfl
@[simp] theorem deliverCompletion_freq (s : State) : (deliverCompletion s).freq = s.freq := rfl
@[simp] theorem deliverCompletion_hreg (s : State) : (deliverCompletion s).hreg = s.hreg := rfl
@[simp] theorem deliverCompletion_ien (s : State) : (deliverCompletion s).ien = s.ien := rfl
@[simp] theorem deliverCompletion_en (s : State) : (deliverCompletion s).en = s.en := rfl
@[simp] theorem deliverCompletion_lock (s : State) : (deliverCompletion s).lock = s.lock := rfl
@[simp] theorem deliverCompletion_armed (s : State) : (deliverCompletion s).armed = s.armed := rfl
@[simp] theorem deliverCompletion_busy (s : State) : (deliverCompletion s).busy = false := rfl
@[simp] theorem deliverCompletion_cflag (s : State) : (deliverCompletion s).cflag = true := rfl
@[simp] theorem deliverCompletion_tbudget (s : State) : (deliverCompletion s).tbudget = s.tbudget := rfl
@[simp] theorem deliverCompletion_tcnt (s : State) : (deliverCompletion s).tcnt = s.tcnt := rfl
@[simp] theorem deliverCompletion_evt (s : State) : (deliverCompletion s).evt = s.evtp := rfl
@[simp] theorem deliverCompletion_evtp (s : State) : (deliverCompletion s).evtp = .none := rfl
@[simp] theorem deliverCompletion_res (s : State) : (deliverCompletion s).res = s.res := rfl
@[simp] theorem deliverCompletion_rej (s : State) : (deliverCompletion s).rej = s.rej := rfl
@[simp] theorem deliverCompletion_txb (s : State) : (deliverCompletion s).txb = s.txb := rfl
@[simp] theorem deliverCompletion_rxb (s : State) : (deliverCompletion s).rxb = s.rxb := rfl
@[simp] theorem deliverCompletion_dir (s : State) : (deliverCompletion s).dir = s.dir := rfl
@[simp] theorem deliverCompletion_nostop (s : State) : (deliverCompletion s).nostop = s.nostop := rfl
@[simp] theorem deliverCompletion_addr (s : State) : (deliverCompletion s).addr = s.addr := rfl
@[simp] theorem deliverCompletion_len (s : State) : (deliverCompletion s).len = s.len := rfl
@[simp] theorem deliverCompletion_idx (s : State) : (deliverCompletion s).idx = s.idx := rfl
@[simp] theorem deliverCompletion_bitc (s : State) : (deliverCompletion s).bitc = s.bitc := rfl
@[simp] theorem deliverCompletion_shift (s : State) : (deliverCompletion s).shift = s.shift := rfl
@[simp] theorem deliverCompletion_errc (s : State) : (deliverCompletion s).errc = s.errc := rfl
@[simp] theorem deliverCompletion_samp (s : State) : (deliverCompletion s).samp = s.samp := rfl
@[simp] theorem deliverCompletion_fes (s : State) : (deliverCompletion s).fes = s.fes := rfl
@[simp] theorem deliverCompletion_claimed (s : State) : (deliverCompletion s).claimed = s.claimed := rfl
@[simp] theorem deliverCompletion_seq (s : State) : (deliverCompletion s).seq = s.seq := rfl
@[simp] theorem deliverCompletion_rlen (s : State) : (deliverCompletion s).rlen = s.rlen := rfl
@[simp] theorem deliverCompletion_sym (s : State) : (deliverCompletion s).sym = s.sym := rfl
@[simp] theorem deliverCompletion_phi (s : State) : (deliverCompletion s).phi = s.phi := rfl
@[simp] theorem deliverCompletion_rxd (s : State) : (deliverCompletion s).rxd = s.rxd := rfl
@[simp] theorem deliverCompletion_rxv (s : State) : (deliverCompletion s).rxv = s.rxv := rfl
@[simp] theorem deliverCompletion_ridx (s : State) : (deliverCompletion s).ridx = s.ridx := rfl
@[simp] theorem deliverCompletion_sclO (s : State) : (deliverCompletion s).sclO = s.sclO := rfl
@[simp] theorem deliverCompletion_sdaO (s : State) : (deliverCompletion s).sdaO = s.sdaO := rfl
@[simp] theorem deliverCompletion_qcnt (s : State) : (deliverCompletion s).qcnt = s.qcnt := rfl
@[simp] theorem deliverCompletion_rsp (s : State) : (deliverCompletion s).rsp = s.rsp := rfl
@[simp] theorem deliverCompletion_prog (s : State) : (deliverCompletion s).prog = s.prog := rfl
@[simp] theorem deliverCompletion_job (s : State) : (deliverCompletion s).job = s.job := rfl
@[simp] theorem deliverCompletion_hostResult (s : State) : (deliverCompletion s).hostResult = s.hostResult := rfl
@[simp] theorem deliverCompletion_hostLog (s : State) : (deliverCompletion s).hostLog = s.hostLog := rfl
@[simp] theorem deliverCompletion_agenda (s : State) : (deliverCompletion s).agenda = s.agenda := rfl
@[simp] theorem deliverCompletion_draws (s : State) : (deliverCompletion s).draws = s.draws := rfl

/-! ### `drive` -/

@[simp] theorem drive_par (l : Bool × Bool) (s : State) : (drive l s).par = s.par := rfl
@[simp] theorem drive_lc (l : Bool × Bool) (s : State) : (drive l s).lc = s.lc := rfl
@[simp] theorem drive_sclpin (l : Bool × Bool) (s : State) : (drive l s).sclpin = s.sclpin := rfl
@[simp] theorem drive_sdapin (l : Bool × Bool) (s : State) : (drive l s).sdapin = s.sdapin := rfl
@[simp] theorem drive_freq (l : Bool × Bool) (s : State) : (drive l s).freq = s.freq := rfl
@[simp] theorem drive_hreg (l : Bool × Bool) (s : State) : (drive l s).hreg = s.hreg := rfl
@[simp] theorem drive_ien (l : Bool × Bool) (s : State) : (drive l s).ien = s.ien := rfl
@[simp] theorem drive_en (l : Bool × Bool) (s : State) : (drive l s).en = s.en := rfl
@[simp] theorem drive_lock (l : Bool × Bool) (s : State) : (drive l s).lock = s.lock := rfl
@[simp] theorem drive_armed (l : Bool × Bool) (s : State) : (drive l s).armed = s.armed := rfl
@[simp] theorem drive_busy (l : Bool × Bool) (s : State) : (drive l s).busy = s.busy := rfl
@[simp] theorem drive_cflag (l : Bool × Bool) (s : State) : (drive l s).cflag = s.cflag := rfl
@[simp] theorem drive_tbudget (l : Bool × Bool) (s : State) : (drive l s).tbudget = s.tbudget := rfl
@[simp] theorem drive_tcnt (l : Bool × Bool) (s : State) : (drive l s).tcnt = s.tcnt := rfl
@[simp] theorem drive_evt (l : Bool × Bool) (s : State) : (drive l s).evt = s.evt := rfl
@[simp] theorem drive_evtp (l : Bool × Bool) (s : State) : (drive l s).evtp = s.evtp := rfl
@[simp] theorem drive_res (l : Bool × Bool) (s : State) : (drive l s).res = s.res := rfl
@[simp] theorem drive_rej (l : Bool × Bool) (s : State) : (drive l s).rej = s.rej := rfl
@[simp] theorem drive_txb (l : Bool × Bool) (s : State) : (drive l s).txb = s.txb := rfl
@[simp] theorem drive_rxb (l : Bool × Bool) (s : State) : (drive l s).rxb = s.rxb := rfl
@[simp] theorem drive_dir (l : Bool × Bool) (s : State) : (drive l s).dir = s.dir := rfl
@[simp] theorem drive_nostop (l : Bool × Bool) (s : State) : (drive l s).nostop = s.nostop := rfl
@[simp] theorem drive_addr (l : Bool × Bool) (s : State) : (drive l s).addr = s.addr := rfl
@[simp] theorem drive_len (l : Bool × Bool) (s : State) : (drive l s).len = s.len := rfl
@[simp] theorem drive_idx (l : Bool × Bool) (s : State) : (drive l s).idx = s.idx := rfl
@[simp] theorem drive_bitc (l : Bool × Bool) (s : State) : (drive l s).bitc = s.bitc := rfl
@[simp] theorem drive_shift (l : Bool × Bool) (s : State) : (drive l s).shift = s.shift := rfl
@[simp] theorem drive_errc (l : Bool × Bool) (s : State) : (drive l s).errc = s.errc := rfl
@[simp] theorem drive_samp (l : Bool × Bool) (s : State) : (drive l s).samp = s.samp := rfl
@[simp] theorem drive_fes (l : Bool × Bool) (s : State) : (drive l s).fes = s.fes := rfl
@[simp] theorem drive_claimed (l : Bool × Bool) (s : State) : (drive l s).claimed = s.claimed := rfl
@[simp] theorem drive_seq (l : Bool × Bool) (s : State) : (drive l s).seq = s.seq := rfl
@[simp] theorem drive_rlen (l : Bool × Bool) (s : State) : (drive l s).rlen = s.rlen := rfl
@[simp] theorem drive_sym (l : Bool × Bool) (s : State) : (drive l s).sym = s.sym := rfl
@[simp] theorem drive_phi (l : Bool × Bool) (s : State) : (drive l s).phi = s.phi := rfl
@[simp] theorem drive_rxd (l : Bool × Bool) (s : State) : (drive l s).rxd = s.rxd := rfl
@[simp] theorem drive_rxv (l : Bool × Bool) (s : State) : (drive l s).rxv = s.rxv := rfl
@[simp] theorem drive_ridx (l : Bool × Bool) (s : State) : (drive l s).ridx = s.ridx := rfl
@[simp] theorem drive_sclO (l : Bool × Bool) (s : State) : (drive l s).sclO = l.1 := rfl
@[simp] theorem drive_sdaO (l : Bool × Bool) (s : State) : (drive l s).sdaO = l.2 := rfl
@[simp] theorem drive_qcnt (l : Bool × Bool) (s : State) : (drive l s).qcnt = s.qcnt := rfl
@[simp] theorem drive_rsp (l : Bool × Bool) (s : State) : (drive l s).rsp = s.rsp := rfl
@[simp] theorem drive_prog (l : Bool × Bool) (s : State) : (drive l s).prog = s.prog := rfl
@[simp] theorem drive_job (l : Bool × Bool) (s : State) : (drive l s).job = s.job := rfl
@[simp] theorem drive_hostResult (l : Bool × Bool) (s : State) : (drive l s).hostResult = s.hostResult := rfl
@[simp] theorem drive_hostLog (l : Bool × Bool) (s : State) : (drive l s).hostLog = s.hostLog := rfl
@[simp] theorem drive_agenda (l : Bool × Bool) (s : State) : (drive l s).agenda = s.agenda := rfl
@[simp] theorem drive_draws (l : Bool × Bool) (s : State) : (drive l s).draws = s.draws := rfl

/-! ### `toSym` -/

@[simp] theorem toSym_par (y : Sym) (s : State) : (toSym y s).par = s.par := rfl
@[simp] theorem toSym_lc (y : Sym) (s : State) : (toSym y s).lc = s.lc := rfl
@[simp] theorem toSym_sclpin (y : Sym) (s : State) : (toSym y s).sclpin = s.sclpin := rfl
@[simp] theorem toSym_sdapin (y : Sym) (s : State) : (toSym y s).sdapin = s.sdapin := rfl
@[simp] theorem toSym_freq (y : Sym) (s : State) : (toSym y s).freq = s.freq := rfl
@[simp] theorem toSym_hreg (y : Sym) (s : State) : (toSym y s).hreg = s.hreg := rfl
@[simp] theorem toSym_ien (y : Sym) (s : State) : (toSym y s).ien = s.ien := rfl
@[simp] theorem toSym_en (y : Sym) (s : State) : (toSym y s).en = s.en := rfl
@[simp] theorem toSym_lock (y : Sym) (s : State) : (toSym y s).lock = s.lock := rfl
@[simp] theorem toSym_armed (y : Sym) (s : State) : (toSym y s).armed = s.armed := rfl
@[simp] theorem toSym_busy (y : Sym) (s : State) : (toSym y s).busy = s.busy := rfl
@[simp] theorem toSym_cflag (y : Sym) (s : State) : (toSym y s).cflag = s.cflag := rfl
@[simp] theorem toSym_tbudget (y : Sym) (s : State) : (toSym y s).tbudget = s.tbudget := rfl
@[simp] theorem toSym_tcnt (y : Sym) (s : State) : (toSym y s).tcnt = s.tcnt := rfl
@[simp] theorem toSym_evt (y : Sym) (s : State) : (toSym y s).evt = s.evt := rfl
@[simp] theorem toSym_evtp (y : Sym) (s : State) : (toSym y s).evtp = s.evtp := rfl
@[simp] theorem toSym_res (y : Sym) (s : State) : (toSym y s).res = s.res := rfl
@[simp] theorem toSym_rej (y : Sym) (s : State) : (toSym y s).rej = s.rej := rfl
@[simp] theorem toSym_txb (y : Sym) (s : State) : (toSym y s).txb = s.txb := rfl
@[simp] theorem toSym_rxb (y : Sym) (s : State) : (toSym y s).rxb = s.rxb := rfl
@[simp] theorem toSym_dir (y : Sym) (s : State) : (toSym y s).dir = s.dir := rfl
@[simp] theorem toSym_nostop (y : Sym) (s : State) : (toSym y s).nostop = s.nostop := rfl
@[simp] theorem toSym_addr (y : Sym) (s : State) : (toSym y s).addr = s.addr := rfl
@[simp] theorem toSym_len (y : Sym) (s : State) : (toSym y s).len = s.len := rfl
@[simp] theorem toSym_idx (y : Sym) (s : State) : (toSym y s).idx = s.idx := rfl
@[simp] theorem toSym_bitc (y : Sym) (s : State) : (toSym y s).bitc = s.bitc := rfl
@[simp] theorem toSym_shift (y : Sym) (s : State) : (toSym y s).shift = s.shift := rfl
@[simp] theorem toSym_errc (y : Sym) (s : State) : (toSym y s).errc = s.errc := rfl
@[simp] theorem toSym_samp (y : Sym) (s : State) : (toSym y s).samp = s.samp := rfl
@[simp] theorem toSym_fes (y : Sym) (s : State) : (toSym y s).fes = s.fes := rfl
@[simp] theorem toSym_claimed (y : Sym) (s : State) : (toSym y s).claimed = s.claimed := rfl
@[simp] theorem toSym_seq (y : Sym) (s : State) : (toSym y s).seq = s.seq := rfl
@[simp] theorem toSym_rlen (y : Sym) (s : State) : (toSym y s).rlen = s.rlen := rfl
@[simp] theorem toSym_sym (y : Sym) (s : State) : (toSym y s).sym = y := rfl
@[simp] theorem toSym_phi (y : Sym) (s : State) : (toSym y s).phi = 0 := rfl
@[simp] theorem toSym_rxd (y : Sym) (s : State) : (toSym y s).rxd = s.rxd := rfl
@[simp] theorem toSym_rxv (y : Sym) (s : State) : (toSym y s).rxv = s.rxv := rfl
@[simp] theorem toSym_ridx (y : Sym) (s : State) : (toSym y s).ridx = s.ridx := rfl
@[simp] theorem toSym_sclO (y : Sym) (s : State) : (toSym y s).sclO = s.sclO := rfl
@[simp] theorem toSym_sdaO (y : Sym) (s : State) : (toSym y s).sdaO = s.sdaO := rfl
@[simp] theorem toSym_qcnt (y : Sym) (s : State) : (toSym y s).qcnt = s.qcnt := rfl
@[simp] theorem toSym_rsp (y : Sym) (s : State) : (toSym y s).rsp = s.rsp := rfl
@[simp] theorem toSym_prog (y : Sym) (s : State) : (toSym y s).prog = s.prog := rfl
@[simp] theorem toSym_job (y : Sym) (s : State) : (toSym y s).job = s.job := rfl
@[simp] theorem toSym_hostResult (y : Sym) (s : State) : (toSym y s).hostResult = s.hostResult := rfl
@[simp] theorem toSym_hostLog (y : Sym) (s : State) : (toSym y s).hostLog = s.hostLog := rfl
@[simp] theorem toSym_agenda (y : Sym) (s : State) : (toSym y s).agenda = s.agenda := rfl
@[simp] theorem toSym_draws (y : Sym) (s : State) : (toSym y s).draws = s.draws := rfl

/-! ### `raiseEvent` -/

@[simp] theorem raiseEvent_par (e : Ev) (f : EngineState) (s : State) : (raiseEvent e f s).par = s.par := rfl
@[simp] theorem raiseEvent_lc (e : Ev) (f : EngineState) (s : State) : (raiseEvent e f s).lc = s.lc := rfl
@[simp] theorem raiseEvent_sclpin (e : Ev) (f : EngineState) (s : State) : (raiseEvent e f s).sclpin = s.sclpin := rfl
@[simp] theorem raiseEvent_sdapin (e : Ev) (f : EngineState) (s : State) : (raiseEvent e f s).sdapin = s.sdapin := rfl
@[simp] theorem raiseEvent_freq (e : Ev) (f : EngineState) (s : State) : (raiseEvent e f s).freq = s.freq := rfl
@[simp] theorem raiseEvent_hreg (e : Ev) (f : EngineState) (s : State) : (raiseEvent e f s).hreg = s.hreg := rfl
@[simp] theorem raiseEvent_ien (e : Ev) (f : EngineState) (s : State) : (raiseEvent e f s).ien = s.ien := rfl
@[simp] theorem raiseEvent_en (e : Ev) (f : EngineState) (s : State) : (raiseEvent e f s).en = s.en := rfl
@[simp] theorem raiseEvent_lock (e : Ev) (f : EngineState) (s : State) : (raiseEvent e f s).lock = s.lock := rfl
@[simp] theorem raiseEvent_armed (e : Ev) (f : EngineState) (s : State) : (raiseEvent e f s).armed = s.armed := rfl
@[simp] theorem raiseEvent_busy (e : Ev) (f : EngineState) (s : State) : (raiseEvent e f s).busy = s.busy := rfl
@[simp] theorem raiseEvent_cflag (e : Ev) (f : EngineState) (s : State) : (raiseEvent e f s).cflag = s.cflag := rfl
@[simp] theorem raiseEvent_tbudget (e : Ev) (f : EngineState) (s : State) : (raiseEvent e f s).tbudget = s.tbudget := rfl
@[simp] theorem raiseEvent_tcnt (e : Ev) (f : EngineState) (s : State) : (raiseEvent e f s).tcnt = s.tcnt := rfl
@[simp] theorem raiseEvent_evt (e : Ev) (f : EngineState) (s : State) : (raiseEvent e f s).evt = s.evt := rfl
@[simp] theorem raiseEvent_evtp (e : Ev) (f : EngineState) (s : State) : (raiseEvent e f s).evtp = e := rfl
@[simp] theorem raiseEvent_res (e : Ev) (f : EngineState) (s : State) : (raiseEvent e f s).res = s.res := rfl
@[simp] theorem raiseEvent_rej (e : Ev) (f : EngineState) (s : State) : (raiseEvent e f s).rej = s.rej := rfl
@[simp] theorem raiseEvent_txb (e : Ev) (f : EngineState) (s : State) : (raiseEvent e f s).txb = s.txb := rfl
@[simp] theorem raiseEvent_rxb (e : Ev) (f : EngineState) (s : State) : (raiseEvent e f s).rxb = s.rxb := rfl
@[simp] theorem raiseEvent_dir (e : Ev) (f : EngineState) (s : State) : (raiseEvent e f s).dir = s.dir := rfl
@[simp] theorem raiseEvent_nostop (e : Ev) (f : EngineState) (s : State) : (raiseEvent e f s).nostop = s.nostop := rfl
@[simp] theorem raiseEvent_addr (e : Ev) (f : EngineState) (s : State) : (raiseEvent e f s).addr = s.addr := rfl
@[simp] theorem raiseEvent_len (e : Ev) (f : EngineState) (s : State) : (raiseEvent e f s).len = s.len := rfl
@[simp] theorem raiseEvent_idx (e : Ev) (f : EngineState) (s : State) : (raiseEvent e f s).idx = s.idx := rfl
@[simp] theorem raiseEvent_bitc (e : Ev) (f : EngineState) (s : State) : (raiseEvent e f s).bitc = s.bitc := rfl
@[simp] theorem raiseEvent_shift (e : Ev) (f : EngineState) (s : State) : (raiseEvent e f s).shift = s.shift := rfl
@[simp] theorem raiseEvent_errc (e : Ev) (f : EngineState) (s : State) : (raiseEvent e f s).errc = s.errc := rfl
@[simp] theorem raiseEvent_samp (e : Ev) (f : EngineState) (s : State) : (raiseEvent e f s).samp = s.samp := rfl
@[simp] theorem raiseEvent_fes (e : Ev) (f : EngineState) (s : State) : (raiseEvent e f s).fes = f := rfl
@[simp] theorem raiseEvent_claimed (e : Ev) (f : EngineState) (s : State) : (raiseEvent e f s).claimed = s.claimed := rfl
@[simp] theorem raiseEvent_seq (e : Ev) (f : EngineState) (s : State) : (raiseEvent e f s).seq = s.seq := rfl
@[simp] theorem raiseEvent_rlen (e : Ev) (f : EngineState) (s : State) : (raiseEvent e f s).rlen = s.rlen := rfl
@[simp] theorem raiseEvent_sym (e : Ev) (f : EngineState) (s : State) : (raiseEvent e f s).sym = s.sym := rfl
@[simp] theorem raiseEvent_phi (e : Ev) (f : EngineState) (s : State) : (raiseEvent e f s).phi = s.phi := rfl
@[simp] theorem raiseEvent_rxd (e : Ev) (f : EngineState) (s : State) : (raiseEvent e f s).rxd = s.rxd := rfl
@[simp] theorem raiseEvent_rxv (e : Ev) (f : EngineState) (s : State) : (raiseEvent e f s).rxv = s.rxv := rfl
@[simp] theorem raiseEvent_ridx (e : Ev) (f : EngineState) (s : State) : (raiseEvent e f s).ridx = s.ridx := rfl
@[simp] theorem raiseEvent_sclO (e : Ev) (f : EngineState) (s : State) : (raiseEvent e f s).sclO = s.sclO := rfl
@[simp] theorem raiseEvent_sdaO (e : Ev) (f : EngineState) (s : State) : (raiseEvent e f s).sdaO = s.sdaO := rfl
@[simp] theorem raiseEvent_qcnt (e : Ev) (f : EngineState) (s : State) : (raiseEvent e f s).qcnt = s.qcnt := rfl
@[simp] theorem raiseEvent_rsp (e : Ev) (f : EngineState) (s : State) : (raiseEvent e f s).rsp = s.rsp := rfl
@[simp] theorem raiseEvent_prog (e : Ev) (f : EngineState) (s : State) : (raiseEvent e f s).prog = s.prog := rfl
@[simp] theorem raiseEvent_job (e : Ev) (f : EngineState) (s : State) : (raiseEvent e f s).job = s.job := rfl
@[simp] theorem raiseEvent_hostResult (e : Ev) (f : EngineState) (s : State) : (raiseEvent e f s).hostResult = s.hostResult := rfl
@[simp] theorem raiseEvent_hostLog (e : Ev) (f : EngineState) (s : State) : (raiseEvent e f s).hostLog = s.hostLog := rfl
@[simp] theorem raiseEvent_agenda (e : Ev) (f : EngineState) (s : State) : (raiseEvent e f s).agenda = s.agenda := rfl
@[simp] theorem raiseEvent_draws (e : Ev) (f : EngineState) (s : State) : (raiseEvent e f s).draws = s.draws := rfl

end Sys2Proof.Machine
end

