-- ==== Sys2Proof/Laws/Ops.lean ====
section
/-! SUPPORT. One lemma per shared operation that says everything it can do, for later proofs to cite in place of unfolding it. -/

namespace Sys2Proof.Machine

/-! ### Outcomes -/

@[simp] theorem chain_next (s : State) (f : State → Result) : chain (.next s) f = f s := rfl

/-- From a chain that went through, its two parts. -/
theorem chain_eq_next {r : Result} {f : State → Result} {t : State} (h : chain r f = .next t) :
    ∃ s, r = .next s ∧ f s = .next t := by
  cases r with
  | next s => exact ⟨s, rfl, h⟩
  | fault e => cases h
  | refused e => cases h

/-- No command stops: every meaning answers a next state, in every state. -/
theorem exec_next (i : Instr) (s : State) : ∃ t, exec i s = .next t := by
  cases i <;> exact ⟨_, rfl⟩

/-- Neither does taking a word, whether it spells a command or not (R124). -/
theorem takeWord_next (w : Word) (s : State) : ∃ t, takeWord w s = .next t := by
  unfold takeWord
  cases decode w with
  | ok i => exact exec_next i s
  | error e => exact ⟨_, rfl⟩

/-! ### Checks -/

/-- A submission is accepted exactly under these conditions (R141). -/
theorem submitCheck_none {d n : Bool} {len : Byte} {s : State} : submitCheck d n len s = .none ↔
    s.lc = .ready ∧ s.busy = false ∧ s.armed = true ∧ ¬(d = true ∧ n = true) ∧ len ≠ 0 ∧ len.toNat ≤ frameCap s.par d := by
  unfold submitCheck; repeat' split
  all_goals simp_all

/-- A primitive is accepted exactly under these conditions (R232). -/
theorem primCheck_none {len : Byte} {s : State} : primCheck len s = .none ↔
    s.lc = .ready ∧ s.busy = false ∧ len ≠ 0 ∧ len.toNat ≤ s.par.dataCap := by
  unfold primCheck; repeat' split
  all_goals simp_all
  exact fun h0 => Or.resolve_left ‹_ ∨ _› h0

@[simp] theorem primCheck_flagReset (len : Byte) (s : State) : primCheck len (flagReset s) = primCheck len s := rfl

/-- A submission, in its two cases (R140). -/
theorem submit_cases (d n : Bool) (a : BusAddr) (l : Byte) (s : State) :
    (submitCheck d n l s = .none ∧ submit d n a l s = answer .success .none 0 (launch d n a l s)) ∨
    (submitCheck d n l s ≠ .none ∧ submit d n a l s = answer .submissionRejected (submitCheck d n l s) 0 s) := by
  unfold submit
  split
  · exact .inl ⟨by assumption, rfl⟩
  · exact .inr ⟨by assumption, rfl⟩

/-- A primitive's `host_cmd` step, in its three cases (R231, R232, R359). -/
theorem primLaunch_cases (d ns : Bool) (n l : Byte) (m : Memory) (q : SeqPoint) (s : State) :
    (primCheck l s = .none ∧ s.tbudget = 0 ∧ primLaunch d ns n l m q s =
      finish .timeout { launch d ns s.par.targetAddr n { flagReset s with txb := m } with tcnt := s.tbudget }) ∨
    (primCheck l s = .none ∧ s.tbudget ≠ 0 ∧ primLaunch d ns n l m q s =
      { launch d ns s.par.targetAddr n { flagReset s with txb := m } with tcnt := s.tbudget, lock := true, seq := q }) ∨
    (primCheck l s ≠ .none ∧ primLaunch d ns n l m q s =
      answer .submissionRejected (primCheck l s) 0 { flagReset s with lock := false, seq := .idle }) := by
  unfold primLaunch
  rw [primCheck_flagReset]
  split
  · rename_i h
    by_cases hb : s.tbudget = 0
    · refine .inl ⟨h, hb, ?_⟩
      unfold primStart
      exact if_pos hb
    · refine .inr (.inl ⟨h, hb, ?_⟩)
      unfold primStart
      exact if_neg hb
  · rename_i h
    exact .inr (.inr ⟨h, rfl⟩)

/-! ### The poll -/

theorem countDown_of_ne {t : Imm24} (h : t ≠ 0) : countDown t = t - 1 := if_neg h

@[simp] theorem countDown_one : countDown 1 = 0 := by decide

/-- What one iteration returns (R213). -/
theorem waitResult_eq (s : State) : waitResult s =
    if s.cflag = true then .done else if countDown s.tcnt = 0 then .timeout else .continue_ := rfl

theorem waitResult_done {s : State} (h : waitResult s = .done) : s.cflag = true := by
  unfold waitResult at h
  split at h
  · assumption
  · split at h <;> cases h

/-- Every event but `None` has a code (R234). -/
theorem classify_some {e : Ev} (h : e ≠ .none) : ∃ c, classify e = some c := by
  cases e
  case none => exact absurd rfl h
  all_goals exact ⟨_, rfl⟩

/-! ### The engine and the mover -/

/-- A phase that its symbol has, has lines (R173). -/
theorem phaseLines_some {y : Sym} {phi : Fin 4} (b : Bool) (h : phi.val < y.phases) : ∃ l, phaseLines y b phi = some l := by
  revert h
  cases y <;> revert phi <;> cases b <;> decide

/-- The sample touches nothing but `SAMP` (R177). -/
theorem sample_same (sdaI : Bool) (s : State) : ∃ b, sample sdaI s = { s with samp := b } := by
  unfold sample
  split
  · exact ⟨_, rfl⟩
  · exact ⟨s.samp, rfl⟩

/-- Presenting a phase touches nothing but the drivers (R362). -/
theorem presentPhase_same (s : State) : ∃ a b, presentPhase s = { s with sclO := a, sdaO := b } := by
  unfold presentPhase
  split
  · split
    · exact ⟨_, _, rfl⟩
    · exact ⟨s.sclO, s.sdaO, rfl⟩
  · exact ⟨s.sclO, s.sdaO, rfl⟩

/-- A byte of `TXB` is loaded whenever its index is inside the buffer (R151, R152). -/
theorem loadByte_next {i : Byte} {s : State} (h : i.toNat < s.par.txCap) : loadByte i s = .next (toSym .txd { s with
    idx := i, shift := Memory.read s.txb i.toNat s.draws, bitc := 7, draws := Memory.drawsAfter s.txb i.toNat s.draws }) := if_pos h

/-- The mover stores whenever its index is inside the buffer (R155). -/
theorem moveByte_next {s : State} (h : s.ridx.toNat < s.par.rxCap) : moveByte s = .next { s with
    rxb := Memory.put s.rxb s.ridx.toNat s.rxd, ridx := s.ridx + 1, rxv := false } := if_pos h

/-- `fe_step` while the engine runs, in its two cases (R172, R180). -/
theorem runStep_cases {sclT sdaT : Bool} {s : State} {lines : Bool × Bool} (h : currentLines s = some lines) :
    runStep sclT sdaT s =
      if isRelease s.sym s.phi && !sclT then .next (drive lines s)
      else performPhase (level lines.1 sclT) (level lines.2 sdaT) (drive lines s) := by
  unfold runStep
  rw [h]

/-! ### The host -/

/-- Logging touches nothing but the log (R277). -/
theorem logFailure_same (op : HostOp) (r : Word) (s : State) : ∃ l, logFailure op r s = { s with hostLog := l } := by
  unfold logFailure
  split
  · exact ⟨s.hostLog, rfl⟩
  · exact ⟨_, rfl⟩

/-- Outside a pseudo-command the host only takes note of a response (R275). -/
theorem hostReceive_of_no_job {s : State} (h : s.job = none) : hostReceive s = s := by
  unfold hostReceive
  rw [h]
  split
  · rename_i h2; cases h2
  · rfl

/-- A step that produced no response leaves the host where it is. -/
theorem hostReceive_of_no_response {s : State} (h : s.rsp = none) : hostReceive s = s := by
  unfold hostReceive
  rw [h]

/-- Presenting a word is taking it in a state in which only the host's side has moved on (R60, R275). -/
theorem presentNext_cases (s : State) : presentNext s = .next s ∨
    ∃ (w : Word) (p : List HostItem) (j : Option HostJob) (r : Option HostResult),
      presentNext s = takeWord w { s with prog := p, job := j, hostResult := r } := by
  unfold presentNext nextWord
  cases hj : s.job with
  | some j => exact .inr ⟨_, s.prog, s.job, s.hostResult, rfl⟩
  | none =>
    cases s.prog with
    | nil => exact .inl rfl
    | cons item rest =>
      cases item with
      | word w => exact .inr ⟨w, rest, none, s.hostResult, by simp only⟩
      | call c => exact .inr ⟨_, rest, some (jobOf c), none, rfl⟩

end Sys2Proof.Machine
end

