-- ==== Sys2Proof/Laws/Invariant.lean ====
section
/-! SUPPORT. What each shared operation does to the invariant: the cases an invariant proof over commands and agents is assembled from. -/

namespace Sys2Proof.Machine

variable {s : State} {c : Code} {r : Rej} {d : Imm24} {a : BusAddr} {n len : Byte} {dir ns : Bool} {m : Memory} {q : SeqPoint}

/-! ### Responses and the host's side -/

theorem answer_inv (h : Inv s) : Inv (answer c r d s) :=
  ⟨{ h.lifecycle with }, { h.arbiter with }, { h.frame with }, { h.sequencer with }, { h.buffers with }, h.job⟩

theorem answerOnly_inv (h : Inv s) : Inv (answerOnly d s) :=
  ⟨{ h.lifecycle with }, { h.arbiter with }, { h.frame with }, { h.sequencer with }, { h.buffers with }, h.job⟩

theorem raiseIllegal_inv (h : Inv s) : Inv (raiseIllegal s) := answer_inv h

/-- The invariant does not look at the host's program, log and response, nor at the environment. -/
theorem surroundings_inv (h : Inv s) (rsp : Option Word) (prog : List HostItem) (v : Option HostResult) (log : List LogEntry)
    (agenda : List Move) (draws : Nat) :
    Inv { s with rsp := rsp, prog := prog, hostResult := v, hostLog := log, agenda := agenda, draws := draws } :=
  ⟨{ h.lifecycle with }, { h.arbiter with }, { h.frame with }, { h.sequencer with }, { h.buffers with }, h.job⟩

/-! ### The sequencer's own parts -/

/-- The port open and the sequencer idle is always consistent. -/
theorem sequencer_idle_ok (s : State) : SequencerOk { s with lock := false, seq := .idle } := by
  constructor <;> simp [primWaits]

theorem seq_idle_of_unlocked (h : Inv s) (hl : s.lock = false) : s.seq = .idle := by
  by_contra hq
  simp [h.sequencer.lock_iff.2 hq] at hl

theorem finish_inv (h : Inv s) : Inv (finish c s) :=
  answer_inv ⟨{ h.lifecycle with }, { h.arbiter with }, { h.frame with }, sequencer_idle_ok s, { h.buffers with }, h.job⟩

theorem finishWait_inv (h : Inv s) : Inv (finishWait c s) :=
  answer_inv ⟨{ h.lifecycle with }, { h.arbiter with }, { h.frame with }, sequencer_idle_ok s, { h.buffers with }, h.job⟩

/-- A tick that leaves the poll going. -/
theorem waitTick_inv (h : Inv s) (hr : waitResult s = .continue_) : Inv (waitTick s) := by
  refine ⟨{ h.lifecycle with }, { h.arbiter with }, { h.frame with }, { h.sequencer with counting := fun _ => ?_ }, { h.buffers with }, h.job⟩
  simp only [waitResult] at hr
  split at hr <;> simp_all

/-! ### Flag, launch, submission -/

theorem flagReset_inv (h : Inv s) (hs : ¬ primWaits s) : Inv (flagReset s) := by
  refine ⟨{ h.lifecycle with quiet_before_ready := fun hl => ⟨(h.lifecycle.quiet_before_ready hl).1, rfl⟩ },
    { h.arbiter with armed_quiet := ?_, flag_delivered := by simp }, { h.frame with },
    { h.sequencer with own_frame := fun hp => absurd hp hs }, { h.buffers with }, h.job⟩
  intro hb
  have hb' : s.busy = false := by simpa using hb
  exact ⟨hb', rfl, (h.arbiter.idle_quiet hb').2.1⟩

/-- The parts of the invariant that a launch rewrites. -/
theorem launch_parts (h : Inv s) (hlc : s.lc = .ready) (hb : s.busy = false) (hc : s.cflag = false)
    (hl : 0 < len.toNat ∧ len.toNat ≤ frameCap s.par dir) (hf : dir = true → ns = false) :
    ArbiterOk (launch dir ns a len s) ∧ FrameOk (launch dir ns a len s) := by
  obtain ⟨hfes, hev, hrx⟩ := h.arbiter.idle_quiet hb
  have hdiv : 1 ≤ phaseCycles s := by simp [phaseCycles, Params.div]
  have hlines : (s.claimed = true → s.sclO = false ∧ s.sdaO = true) ∧ (s.claimed = false → s.sclO = true ∧ s.sdaO = true) := by
    rcases hfes with hi | hh
    · have := h.frame.released_unclaimed (.inl hi)
      simp_all
    · have := h.frame.held_claimed hh
      simp_all
  refine ⟨?_, ?_⟩
  · constructor <;> simp_all [launch]
  · cases hclm : s.claimed <;>
    constructor <;> simp_all [launch, inFlight, Sym.phases, errorFits, receivedBound, linesBefore, phaseCycles]

/-- A launch by a command, the sequencer being idle. -/
theorem launch_inv (h : Inv s) (hs : s.seq = .idle) (hlc : s.lc = .ready) (hb : s.busy = false) (hc : s.cflag = false)
    (hl : 0 < len.toNat ∧ len.toNat ≤ frameCap s.par dir) (hf : dir = true → ns = false) : Inv (launch dir ns a len s) := by
  obtain ⟨h1, h2⟩ := launch_parts (a := a) h hlc hb hc hl hf
  refine ⟨{ h.lifecycle with quiet_before_ready := fun hl => absurd hlc hl }, h1, h2, ?_, { h.buffers with }, h.job⟩
  have := h.sequencer.lock_iff
  constructor <;> simp_all [primWaits]

theorem byte_pos {n : Byte} (h : n ≠ 0) : 0 < n.toNat :=
  Nat.pos_of_ne_zero fun h0 => h (BitVec.eq_of_toNat_eq (by simpa using h0))

theorem submit_inv (h : Inv s) (hs : s.lock = false) : Inv (submit dir ns a len s) := by
  rcases submit_cases dir ns a len s with ⟨hc, e⟩ | ⟨_, e⟩ <;> rw [e]
  · obtain ⟨h1, h2, h3, h4, h5, h6⟩ := submitCheck_none.1 hc
    refine answer_inv (launch_inv h (seq_idle_of_unlocked h hs) h1 h2 (h.arbiter.armed_quiet h3).2.1 ⟨byte_pos h5, h6⟩ ?_)
    intro hd
    cases ns <;> simp_all
  · exact answer_inv h

/-- The `host_cmd` step of a primitive. -/
theorem primLaunch_inv (h : Inv s) (hs : s.seq = .idle) (hm : Memory.wf m) (hw : Memory.within m s.par.txCap)
    (hns : q = .primW ∨ (q = .rb1W ∧ ns = true ∧ s.rlen = len))
    (hn : primCheck len s = .none → 0 < n.toNat ∧ n.toNat ≤ s.par.txCap) : Inv (primLaunch false ns n len m q s) := by
  have hf := flagReset_inv h (by simp [primWaits, hs])
  have ht : Inv { flagReset s with txb := m } := ⟨{ hf.lifecycle with }, { hf.arbiter with }, { hf.frame with }, { hf.sequencer with },
    { hf.buffers with txb_wf := hm, txb_within := hw }, hf.job⟩
  have started (hc : primCheck len s = .none) := launch_parts (a := s.par.targetAddr) (len := n) (dir := false) (ns := ns) ht
    (primCheck_none.1 hc).1 (primCheck_none.1 hc).2.1 rfl (by simpa [frameCap] using hn hc) (by simp)
  rcases primLaunch_cases false ns n len m q s with ⟨hc, _, e⟩ | ⟨hc, hb, e⟩ | ⟨_, e⟩ <;> rw [e]
  · obtain ⟨h1, h2⟩ := started hc
    exact answer_inv ⟨{ ht.lifecycle with quiet_before_ready := fun hl => absurd (primCheck_none.1 hc).1 hl }, { h1 with }, { h2 with },
      sequencer_idle_ok _, { ht.buffers with }, ht.job⟩
  · obtain ⟨h1, h2⟩ := started hc
    obtain ⟨hlc, hbusy, hlen, hcap⟩ := primCheck_none.1 hc
    refine ⟨{ ht.lifecycle with quiet_before_ready := fun hl => absurd hlc hl }, { h1 with }, { h2 with }, ?_, { ht.buffers with }, ht.job⟩
    have := byte_pos hlen
    rcases hns with rfl | ⟨rfl, rfl, rfl⟩ <;> constructor <;> simp_all [primWaits]
  · exact answer_inv ⟨{ hf.lifecycle with }, { hf.arbiter with }, { hf.frame with }, sequencer_idle_ok _, { hf.buffers with }, hf.job⟩

/-! ### Mover and completion unit -/

/-- A byte to move has a place: the engine never formed an index outside the frame (R81, R155). -/
theorem ridx_lt (h : Inv s) (hr : s.rxv = true) : s.ridx.toNat < s.len.toNat ∧ s.len.toNat ≤ s.par.rxCap := by
  have hb : s.busy = true := by
    by_contra hb
    have := h.arbiter.idle_quiet (by simpa using hb)
    simp_all
  have hev : s.evtp = .none := by
    by_contra he
    have := h.arbiter.pending_over he
    simp_all
  have hd : s.dir = true := by
    by_contra hd
    have := h.frame.write_receives_nothing hb (by simpa using hd)
    simp_all
  have hf := h.arbiter.busy_running hb hev
  have h1 := h.frame.moved_in_order hf hd
  have h2 := h.frame.index_fits hf
  have h3 := (h.frame.len_fits hb).2
  simp only [hr, hd, frameCap, receivedBound, Bool.toNat_true, if_true] at h1 h3
  refine ⟨?_, h3⟩
  repeat' split at h1
  all_goals omega

theorem deliver_inv (h : Inv s) (he : s.evtp ≠ .none) : Inv (deliverCompletion s) := by
  obtain ⟨hb, hf, hr⟩ := h.arbiter.pending_over he
  have hna : s.armed = false := by
    by_contra ha
    have := h.arbiter.armed_quiet (by simpa using ha)
    simp_all
  have hnr : s.fes ≠ .run ∧ s.fes ≠ .drain := by rcases hf with hf | hf <;> simp [hf]
  refine ⟨{ h.lifecycle with quiet_before_ready := fun hl => absurd (h.arbiter.busy_ready hb) hl }, ?_,
    { h.frame with
      len_fits := by simp, form_ok := by simp, overrun_is_read := by simp, data_nack_is_write := by simp, done_holds_iff := by simp,
      write_receives_nothing := by simp, done_has_all := by simp, delivered_has_all := fun _ hd => h.frame.done_has_all hd },
    { h.sequencer with
      own_frame := fun _ => .inr rfl, phase_one_frame := by simp, write_phase_frame := by simp, read_phase_frame := by simp,
      phase_one_held := ?_, phase_two_ready := fun hq => ⟨rfl, (h.sequencer.phase_two_ready hq).2⟩,
      write_phase_event := ?_, read_phase_event := ?_ },
    { h.buffers with }, h.job⟩
  · constructor <;> simp_all
  · intro hq _ hd
    exact (h.frame.done_holds_iff hd).1 (h.sequencer.phase_one_frame hq hb).2
  · intro hq _ he'
    have := h.sequencer.write_phase_frame hq hb
    have := h.frame.overrun_is_read he'
    simp_all
  · intro hq _ he'
    have := h.sequencer.read_phase_frame hq hb
    have := h.frame.data_nack_is_write he'
    simp_all

end Sys2Proof.Machine
end

