-- ==== Sys2Proof/Laws/PerInstr.lean ====
section
/-! SUPPORT. The family LineShape, stated for every command: its assembler line bears its mnemonic and has one operand per field (R125). -/

namespace Sys2Proof.Laws.LineShape

def Statement (i : Instr) : Prop := i.asm.mnemonic = i.mnemonic ∧ i.asm.operands.length = i.mnemonic.widths.length

theorem init (scl sda : Byte) (f : FreqCode) : Statement (.init scl sda f) := ⟨rfl, rfl⟩
theorem frst : Statement .frst := ⟨rfl, rfl⟩
theorem submitW (a : BusAddr) (n : Byte) : Statement (.submitW a n) := ⟨rfl, rfl⟩
theorem submitWN (a : BusAddr) (n : Byte) : Statement (.submitWN a n) := ⟨rfl, rfl⟩
theorem submitR (a : BusAddr) (n : Byte) : Statement (.submitR a n) := ⟨rfl, rfl⟩
theorem submitRN (a : BusAddr) (n : Byte) : Statement (.submitRN a n) := ⟨rfl, rfl⟩
theorem wait (b : Imm24) : Statement (.wait b) := ⟨rfl, rfl⟩
theorem wreg (r v : Byte) : Statement (.wreg r v) := ⟨rfl, rfl⟩
theorem wblk (r n : Byte) : Statement (.wblk r n) := ⟨rfl, rfl⟩
theorem rblk (r n : Byte) : Statement (.rblk r n) := ⟨rfl, rfl⟩
theorem stb (i b : Byte) : Statement (.stb i b) := ⟨rfl, rfl⟩
theorem ldb (i : Byte) : Statement (.ldb i) := ⟨rfl, rfl⟩
theorem stmo (b : Imm24) : Statement (.stmo b) := ⟨rfl, rfl⟩
theorem rdst (s : Byte) : Statement (.rdst s) := ⟨rfl, rfl⟩

end Sys2Proof.Laws.LineShape
end

