-- ==== Sys2Proof/Machine/Assembler.lean ====
section
/-! DEFINITION. The spec's textual syntax for commands (spec/30_encoding.md R125): one command per line, mnemonic then comma-separated operands,
numbers in decimal or `0x` hexadecimal, `;` starts a comment. A text is a list of characters. -/

namespace Sys2Proof

/-- The name of a mnemonic in the text (R125). -/
def Mnemonic.name : Mnemonic → List Char
  | .INIT      => ['I', 'N', 'I', 'T']
  | .FRST      => ['F', 'R', 'S', 'T']
  | .SUBMIT_W  => ['S', 'U', 'B', 'M', 'I', 'T', '.', 'W']
  | .SUBMIT_WN => ['S', 'U', 'B', 'M', 'I', 'T', '.', 'W', 'N']
  | .SUBMIT_R  => ['S', 'U', 'B', 'M', 'I', 'T', '.', 'R']
  | .SUBMIT_RN => ['S', 'U', 'B', 'M', 'I', 'T', '.', 'R', 'N']
  | .WAIT      => ['W', 'A', 'I', 'T']
  | .WREG      => ['W', 'R', 'E', 'G']
  | .WBLK      => ['W', 'B', 'L', 'K']
  | .RBLK      => ['R', 'B', 'L', 'K']
  | .STB       => ['S', 'T', 'B']
  | .LDB       => ['L', 'D', 'B']
  | .STMO      => ['S', 'T', 'M', 'O']
  | .RDST      => ['R', 'D', 'S', 'T']

/-- The mnemonic a name spells. -/
def mnemonicOf (cs : List Char) : Option Mnemonic := (opcodeMap.map (·.mnemonic)).find? (fun m => m.name == cs)

/-- The value of a digit, decimal or hexadecimal. -/
def digitOf (c : Char) : Option Nat :=
  if '0' ≤ c ∧ c ≤ '9' then some (c.toNat - '0'.toNat)
  else if 'a' ≤ c ∧ c ≤ 'f' then some (c.toNat - 'a'.toNat + 10)
  else if 'A' ≤ c ∧ c ≤ 'F' then some (c.toNat - 'A'.toNat + 10)
  else none

/-- The number written by digits in a base, after `acc`. -/
def digitsFrom (base acc : Nat) : List Char → Option Nat
  | []      => some acc
  | c :: cs =>
    match digitOf c with
    | some d => if d < base then digitsFrom base (acc * base + d) cs else none
    | none   => none

/-- A number in decimal or `0x` hexadecimal (R125). -/
def numberOf : List Char → Option Nat
  | []                  => none
  | '0' :: 'x' :: []    => none
  | '0' :: 'x' :: c :: cs => digitsFrom 16 0 (c :: cs)
  | c :: cs             => digitsFrom 10 0 (c :: cs)

/-- Blanks between the parts of a line. -/
def isBlank (c : Char) : Bool := c == ' ' || c == '\t' || c == '\r'

/-- Without the blanks at both ends. -/
def trimBlanks (cs : List Char) : List Char := ((cs.dropWhile isBlank).reverse.dropWhile isBlank).reverse

/-- All of a list's results, or none. -/
def allOf {α β : Type} (f : α → Option β) : List α → Option (List β)
  | []      => some []
  | x :: xs =>
    match f x, allOf f xs with
    | some y, some ys => some (y :: ys)
    | _, _            => none

/-- The operands after a mnemonic: nothing, or numbers separated by commas (R125). -/
def operandsOf (cs : List Char) : Option (List Nat) :=
  match trimBlanks cs with
  | []  => some []
  | txt => allOf (fun p => numberOf (trimBlanks p)) (txt.splitOn ',')

/-- The line a text spells; `some none` for a line with nothing but blanks and a comment (R125). -/
def lineOf (cs : List Char) : Option (Option AsmLine) :=
  match trimBlanks (cs.takeWhile (· != ';')) with
  | []  => some none
  | txt =>
    match mnemonicOf (txt.takeWhile (fun c => !isBlank c)), operandsOf (txt.dropWhile (fun c => !isBlank c)) with
    | some m, some ns => some (some ⟨m, ns⟩)
    | _, _            => none

/-- The words of a text, one command per line; none where a line is an assembly error (R125). -/
def wordsOf (text : List Char) : Option (List Word) :=
  match allOf lineOf (text.splitOn '\n') with
  | some ls => allOf (fun l => (AsmLine.assemble l).map encode) (ls.filterMap id)
  | none    => none

end Sys2Proof
end

