-- ==== Sys2Proof/Machine/Target.lean ====
section
/-! DEFINITION. A conforming target: the sensor at the other end of the bus, as far as the spec gives it (spec/20_memory.md R80 (5), R91;
spec/42_wire_protocol.md R194). It is outside the block and no state of it (spec/10_state.md R60): the step takes the target's lines from the
move, which may be any. Claims and tests that want a conforming target take its moves from here. -/

namespace Sys2Proof.Machine

/-- A target's registers and its register pointer, with what R194 leaves to it: how long it stretches the clock and which bytes it refuses. -/
structure Target where
  regs      : Vector Byte 256
  pointer   : Byte
  /-- The pointer after register 0xFF. The spec is silent on the end of the register space, and spec/91_not_in_source.md says to assume
  nothing: any value (DESIGN CHOICE, log entry 19). -/
  afterLast : Byte
  /-- For each SCL-release phase to come, the number of steps for which the target holds SCL low in it; where none is listed, none (R194: a
  finite number). -/
  holds     : List Nat
  /-- For each ACK slot to come in frames addressed to the target, whether it refuses the byte; where none is listed it does not (R194: even the
  real sensor may NACK a write it was expected to take). -/
  refuses   : List Bool
  deriving DecidableEq, Repr

/-- The frame on the wire is addressed to the target (R194). -/
def Target.addressed (s : State) : Bool := s.addr == s.par.targetAddr

/-- The target answers the ACK slot in progress with NACK: a frame for another address, or a byte it refuses (R194). -/
def Target.nacks (g : Target) (s : State) : Bool := !Target.addressed s || g.refuses.headD false

/-- The SCL driver of the target in the phase in progress: low while it stretches an SCL-release phase, released otherwise (R194). -/
def Target.scl (g : Target) (s : State) : Bool := !isRelease s.sym s.phi || g.holds.headD 0 == 0

/-- The SDA driver of the target in the phase in progress: low in the ACK slots it answers with ACK, the bit it sends in the data bits of a read
frame addressed to it, released otherwise (R194). -/
def Target.sda (g : Target) (s : State) : Bool :=
  match s.sym with
  | .acka | .ackd => g.nacks s
  | .rxbit        => !Target.addressed s || g.regs[g.pointer.toFin].getLsbD s.bitc.toNat
  | _             => true

/-- The move of the engine with this target (R171, R194). -/
def Target.move (g : Target) (s : State) : Move := .fe (g.scl s) (g.sda s)

/-- The pointer one register on; after register 0xFF it is `afterLast`, any value (R91; log entry 19). -/
def Target.advance (g : Target) : Target :=
  { g with pointer := if g.pointer = 0xFF then g.afterLast else g.pointer + 1 }

/-- A byte written to the target: the first of a frame sets the pointer, a later one is stored where it points (R91). -/
def Target.write (g : Target) (first : Bool) (b : Byte) : Target :=
  if first then { g with pointer := b } else ({ g with regs := g.regs.set g.pointer.toFin b }).advance

/-- One step of an SCL-release phase is over: the one held, or, where none is held, the phase itself. -/
def Target.released (g : Target) : Target :=
  match g.holds with
  | (n + 1) :: rest => { g with holds := n :: rest }
  | _               => { g with holds := g.holds.tail }

/-- An ACK slot of a frame addressed to the target is over. -/
def Target.answered (g : Target) : Target := { g with refuses := g.refuses.tail }

/-- The target after the end of the symbol in progress: it takes a written byte that it acknowledged, and moves its pointer on after a byte it
has sent (R91, R194). -/
def Target.afterSymbol (g : Target) (s : State) : Target :=
  match s.sym with
  | .acka => g.answered
  | .ackd => if g.nacks s then g.answered else g.answered.write (s.idx == 0) s.shift
  | .mack => g.advance
  | _     => g

/-- The target after the phase in progress (R194). -/
def Target.after (g : Target) (s : State) : Target :=
  if s.fes = .run then
    if isRelease s.sym s.phi then g.released
    else if Target.addressed s && s.phi == 3 then g.afterSymbol s
    else g
  else g

/-- `n` steps with this target, the mover in time (R155, R194). -/
def Target.run : Nat → Target → State → Option (Target × State)
  | 0, g, s     => some (g, s)
  | n + 1, g, s =>
    match runMoves [g.move s, .mover] s with
    | .next t => Target.run n (g.after s) t
    | _       => none

end Sys2Proof.Machine
end

