-- ==== Sys2Proof/Tests/Slice0.lean ====
section
/-! SUPPORT. Tests. Expected values are those of spec/95_test_vectors.md ("V…") and of the rules' own examples, with its example
parameter set E. The last part gives, for every statement with hypotheses, states and operands that meet them. -/

namespace Sys2Proof.Tests

open Sys2Proof Sys2Proof.Machine

/-! ## States -/

/-- The parameter set E (95_test_vectors.md, section 0). -/
def E : Params where
  targetAddr := 0x68
  capIndex := 2
  tmoDefault := 0
  divPred := #v[0, 1, 4, 9]
  initRefused := []
  sprReg := 0x10
  sprVal := 0x07
  pwrReg := 0x11
  pwrVal := 0x00
  cfgBase := 0x20
  cfgHead := 0x07
  cfgTail := [0x00, 0x08, 0x18]

def fresh : State := State.resetOf E

/-- After `INIT 9, 10, 0`. -/
def ready : State := configure 9 10 0 fresh

def armed : State := { ready with armed := true }

/-- A frame on the wire, at one phase of one symbol, its lines as before that phase. -/
def onWire (dir nostop : Bool) (len idx : Byte) (sym : Sym) (phi : Fin 4) (lines : Bool × Bool) : State :=
  { ready with
    busy := true, fes := .run, dir := dir, nostop := nostop, addr := 0x68, len := len, idx := idx, sym := sym, phi := phi,
    sclO := lines.1, sdaO := lines.2, qcnt := 1 }

/-- A frame over, its event pending. -/
def pending (e : Ev) : State := { ready with busy := true, evtp := e, addr := 0x68, len := 2 }

/-- The state after an outcome. -/
def next? : Result → Option State
  | .next s => some s
  | _       => none

/-- Part of the state after an outcome. -/
def look {α : Type} (f : State → α) (r : Result) : Option α := (next? r).map f

/-- Response, `STATUS` and `LAST` after an outcome. -/
def shown (r : Result) : Option (Option Word × Imm24 × Imm24) := look (fun s => (s.rsp, statusReg s, lastReg s)) r

/-! ## Well-formedness -/

theorem test_wf_operand_fits : (AsmLine.mk .SUBMIT_W [0x7F, 255]).wellFormed = true := by decide
theorem test_wf_byte_too_wide : (AsmLine.mk .STB [256, 0]).wellFormed = false := by decide
theorem test_wf_address_too_wide : (AsmLine.mk .SUBMIT_R [0x80, 1]).wellFormed = false := by decide
theorem test_wf_freq_too_wide : (AsmLine.mk .INIT [0, 0, 4]).wellFormed = false := by decide
theorem test_wf_imm24_too_wide : (AsmLine.mk .WAIT [0x1000000]).wellFormed = false := by decide
theorem test_wf_operand_missing : (AsmLine.mk .WREG [1]).wellFormed = false := by decide
theorem test_wf_operand_extra : (AsmLine.mk .FRST [0]).wellFormed = false := by decide
theorem test_assembly_error_is_no_word : (AsmLine.mk .STMO [0x1000000]).assemble = none := by decide

/-! ## Decoding (V1.1, V1.2): each word written out in its fields -/

theorem test_decode_init : decode (0b0001#4 ++ 0#10 ++ 1#2 ++ 9#8 ++ 10#8) = .ok (.init 9 10 1) := by decide
theorem test_decode_frst : decode (0b0010#4 ++ 0#28) = .ok .frst := by decide
theorem test_decode_submitW : decode (0b0011#4 ++ 0#1 ++ 0#1 ++ 0#3 ++ 0x68#7 ++ 0#8 ++ 2#8) = .ok (.submitW 0x68 2) := by decide
theorem test_decode_submitWN : decode (0b0011#4 ++ 0#1 ++ 1#1 ++ 0#3 ++ 0x68#7 ++ 0#8 ++ 1#8) = .ok (.submitWN 0x68 1) := by decide
theorem test_decode_submitR : decode (0b0011#4 ++ 1#1 ++ 0#1 ++ 0#3 ++ 0x68#7 ++ 0#8 ++ 6#8) = .ok (.submitR 0x68 6) := by decide
theorem test_decode_submitRN : decode (0b0011#4 ++ 1#1 ++ 1#1 ++ 0#3 ++ 0x68#7 ++ 0#8 ++ 3#8) = .ok (.submitRN 0x68 3) := by decide
theorem test_decode_wait : decode (0b0100#4 ++ 0#4 ++ 200#24) = .ok (.wait 200) := by decide
theorem test_decode_wreg : decode (0b0101#4 ++ 0#12 ++ 0x6B#8 ++ 0#8) = .ok (.wreg 0x6B 0) := by decide
theorem test_decode_wblk : decode (0b0110#4 ++ 0#12 ++ 0x20#8 ++ 4#8) = .ok (.wblk 0x20 4) := by decide
theorem test_decode_rblk : decode (0b0111#4 ++ 0#12 ++ 0x3B#8 ++ 6#8) = .ok (.rblk 0x3B 6) := by decide
theorem test_decode_stb : decode (0b1000#4 ++ 0#12 ++ 1#8 ++ 7#8) = .ok (.stb 1 7) := by decide
theorem test_decode_ldb : decode (0b1001#4 ++ 0#12 ++ 4#8 ++ 0#8) = .ok (.ldb 4) := by decide
theorem test_decode_stmo : decode (0b1010#4 ++ 0#4 ++ 400#24) = .ok (.stmo 400) := by decide
theorem test_decode_rdst : decode (0b1011#4 ++ 0#12 ++ 5#8 ++ 0#8) = .ok (.rdst 5) := by decide

theorem test_encode_words :
    [encode (.init 9 10 3), encode (.submitRN 0x68 3), encode (.wait 200), encode (.wblk 0x20 4), encode (.stmo 400), encode (.rdst 5)]
      = [0x1003090A, 0x3C680003, 0x400000C8, 0x60002004, 0xA0000190, 0xB0000500] := by decide

theorem test_reserved_opcodes : ([0x00000000, 0xC0000000, 0xF1234567] : List Word).all
    (fun w => decode w == .error .reservedOpcode) = true := by decide

theorem test_reserved_bits : ([0x10040000, 0x20000001, 0x30800001, 0x30000101, 0x41000000, 0x50010000, 0x90000001, 0xB0000001,
    0xA1000000] : List Word).all (fun w => decode w == .error .reservedBits) = true := by decide

theorem test_table_word : decodeTableWord 32 0x34680001 = some (.submitWN 0x68 1) ∧ decodeTableWord 32 0 = none := by decide

/-- The rows of the opcode map do not overlap: two rows differ in a bit that both fix. -/
theorem test_rows_disjoint :
    opcodeMap.Pairwise (fun r r' => r.matchBits &&& (r.mask &&& r'.mask) ≠ r'.matchBits &&& (r.mask &&& r'.mask)) := by decide

/-! ## Commands, one step each -/

/-- V6.1. -/
theorem test_init : (shown (exec (.init 9 10 1) fresh), look configReg (exec (.init 9 10 1) fresh))
    = (some (some 0x00000000, 0x00001D, 0x00), some 0x01090A) := by decide
/-- V6.3. -/
theorem test_init_refused : shown (exec (.init 9 10 1) (State.resetOf { E with initRefused := [(9, 10, 1)] }))
    = some (some 0x00000007, 0x000002, 0x07) := by decide
/-- V3.5. -/
theorem test_frst : shown (exec .frst { ready with cflag := true }) = some (some 0x00000000, 0x00003D, 0x00) := by decide
theorem test_frst_busy : shown (exec .frst (onWire false false 2 0 .s 0 (true, true))) = some (some 0x00000000, 0x00405D, 0x00) := by decide
/-- V2.1. -/
theorem test_submitW : shown (exec (.submitW 0x68 2) armed) = some (some 0x00000000, 0x00405D, 0x00) := by decide
/-- V2.3: one more than the capacity. -/
theorem test_submitW_too_long : shown (exec (.submitW 0x68 10) armed) = some (some 0x00000051, 0x00003D, 0x51) := by decide
/-- V2.8: the descriptor. -/
theorem test_submitWN : look (fun s => (s.dir, s.nostop, s.addr, s.len, s.fes, s.sym)) (exec (.submitWN 0x68 1) armed)
    = some (false, true, 0x68, 1, .run, .s) := by decide
/-- V2.3. -/
theorem test_submitWN_unarmed : shown (exec (.submitWN 0x68 1) ready) = some (some 0x00000031, 0x00001D, 0x31) := by decide
/-- V2.4, from a claimed bus: repeated START. -/
theorem test_submitR : look (fun s => (s.rsp, s.dir, s.len, s.sym)) (exec (.submitR 0x68 8) { armed with claimed := true, fes := .held })
    = some (some 0x00000000, true, 8, .sr) := by decide
/-- V2.3. -/
theorem test_submitR_too_long : shown (exec (.submitR 0x68 9) armed) = some (some 0x00000051, 0x00003D, 0x51) := by decide
/-- V2.3: BadForm comes before BadLength, NotReady before both. -/
theorem test_submitRN : shown (exec (.submitRN 0x68 0) armed) = some (some 0x00000041, 0x00003D, 0x41) := by decide
theorem test_submitRN_not_ready : shown (exec (.submitRN 0x68 0) { fresh with armed := true }) = some (some 0x00000011, 0x000020, 0x11) := by
  decide
/-- V3.1. -/
theorem test_wait_zero : look (fun s => (s.rsp, s.tcnt, s.lock)) (exec (.wait 0) { ready with cflag := true, tcnt := 9 })
    = some (some 0x00000006, 0, false) := by decide
/-- V3.3: the iteration after `WAIT 5` with the flag set. -/
theorem test_wait_done : look (fun s => (s.rsp, s.lock, s.cflag))
      (perform .seq { ready with cflag := true, tcnt := 5, lock := true, seq := .waitW })
    = some (some 0x00000400, false, true) := by decide
/-- V4.1, edge 2. -/
theorem test_wreg : look (fun s => (s.txb, s.len, s.tcnt, s.lock, s.seq)) (exec (.wreg 0x6B 0x00) { ready with tbudget := 200 })
    = some ([(0, 0x6B), (1, 0x00)], 2, 200, true, .primW) := by decide
/-- V4.10. -/
theorem test_wreg_no_budget : shown (exec (.wreg 0x6B 0x00) ready) = some (some 0x00000006, 0x00405D, 0x06) := by decide
/-- V4.4: the largest block. -/
theorem test_wblk : look (fun s => (s.txb, s.len, s.seq)) (exec (.wblk 0x20 8) { ready with tbudget := 500, txb := [(1, 0x21)] })
    = some ([(0, 0x20), (1, 0x21)], 9, .primW) := by decide
/-- V4.5. -/
theorem test_wblk_too_long : (shown (exec (.wblk 0x20 9) ready), look (·.txb) (exec (.wblk 0x20 9) ready))
    = (some (some 0x00000051, 0x00003D, 0x51), some []) := by decide
/-- V4.6, edge 2. -/
theorem test_rblk : look (fun s => (s.txb, s.nostop, s.len, s.rlen, s.seq)) (exec (.rblk 0x3B 6) { ready with tbudget := 200 })
    = some ([(0, 0x3B)], true, 1, 6, .rb1W) := by decide
/-- V4.13: `RLEN` is written before the checks. -/
theorem test_rblk_not_ready : look (fun s => (s.rsp, statusReg s, s.rlen)) (exec (.rblk 0x3B 6) fresh)
    = some (some 0x00000011, 0x000020, 6) := by decide
/-- V5.1. -/
theorem test_stb : look (fun s => (s.rsp, s.txb)) (exec (.stb 1 0x07) fresh) = some (some 0x00000000, [(1, 0x07)]) := by decide
theorem test_stb_out_of_range : shown (exec (.stb 9 0) ready) = some (some 0x0000000F, 0x00001D, 0x0F) := by decide
/-- V5.2. -/
theorem test_ldb : look (·.rsp) (exec (.ldb 4) { ready with rxb := [(4, 0xFF)] }) = some (some 0x0000FF00) := by decide
theorem test_ldb_while_reading : look (·.rsp) (exec (.ldb 0) (onWire true false 8 0 .s 0 (true, true))) = some (some 0x0000000F) := by decide
/-- V3.6. -/
theorem test_stmo : look (fun s => (s.rsp, s.tbudget)) (exec (.stmo 7) fresh) = some (some 0x00000000, 7) := by decide
/-- V5.3. -/
theorem test_rdst_config : shown (exec (.rdst 5) (configure 9 10 1 { fresh with res := .illegal })) = some (some 0x01090A00, 0x00001D, 0x0F) := by
  decide
theorem test_rdst_reserved : shown (exec (.rdst 6) ready) = some (some 0x0000000F, 0x00001D, 0x0F) := by decide

/-! ## Agents, one step each -/

/-- V7.2. -/
theorem test_deliver : look (fun s => (s.evt, s.cflag, s.evtp, s.busy, irq s)) (perform .cb (pending .dataNack))
    = some (.dataNack, true, .none, false, false) := by decide
/-- V2.12: SDA low at START. -/
theorem test_bus_not_free : look (fun s => (s.evtp, s.fes, s.sclO, s.sdaO)) (perform (.fe true false) (onWire false false 2 0 .s 0 (true, true)))
    = some (.busError, .idle, true, true) := by decide
/-- V2.11: the byte completes with the holding register full. -/
theorem test_overrun : look (fun s => (s.errc, s.rxd, s.sym))
      (perform (.fe true true) { onWire true false 6 1 .rxbit 3 (true, true) with rxv := true, rxd := 0x01, samp := false })
    = some (.overrun, 0x01, .mack) := by decide
/-- V2.10: the last byte is answered with a NACK. -/
theorem test_last_byte_nacked : look (fun s => (s.sclO, s.sdaO)) (perform (.fe true true) (onWire true false 6 5 .mack 0 (false, true)))
    = some (false, true) := by decide
/-- V8.1. -/
theorem test_axis_extremes : axisSample [0x7F, 0xFF, 0x80, 0x00, 0xFF, 0xFF] = some (.sample 32767 (-32768) (-1)) := by decide
/-- V2.19: `Q = 10` with `FREQ = 3`. -/
theorem test_phase_count : phaseCycles { fresh with freq := 3 } = 10 ∧ framePhases false false 2 = 115 := by decide
/-- V2.18: the engine stays in `ACKD.1` while SCL is held. -/
theorem test_stretch : look (fun s => (s.phi, s.sclO)) (perform (.fe false true) (onWire false false 2 0 .ackd 1 (false, true)))
    = some (1, true) := by decide

/-! ## Surroundings -/

/-- R125: decimal and hexadecimal operands, a comment, a blank line. -/
theorem test_assembler_text : wordsOf ['S', 'T', 'B', ' ', '1', ',', '0', 'x', '7', ' ', ';', 'c', '\n', '\n', 'F', 'R', 'S', 'T']
    = some [0x80000107, 0x20000000] := by decide

theorem test_assembler_error : wordsOf ['L', 'D', 'B', ' ', '2', '5', '6'] = none := by decide

def target (pointer : Byte) (holds : List Nat) (refuses : List Bool) : Target := ⟨Vector.replicate 256 0, pointer, 0x77, holds, refuses⟩

/-- R91, R194: the first byte of a write frame sets the pointer, the next is stored there. -/
theorem test_target_write : (((target 9 [] []).write true 0x20).write false 0x07).pointer = 0x21
    ∧ ((((target 9 [] []).write true 0x20).write false 0x07).regs[0x20]) = 0x07 := by decide

/-- R194: it answers its own address only, and may refuse a byte. -/
theorem test_target_answers : ((target 0 [] []).sda (onWire false false 1 0 .acka 0 (false, true)),
      (target 0 [] []).sda { onWire false false 1 0 .acka 0 (false, true) with addr := 0x69 },
      (target 0 [] [true]).sda (onWire false false 1 0 .ackd 0 (false, true))) = (false, true, true) := by decide

/-- R194: it holds SCL low for one step of a release phase, and releases it in the next. -/
theorem test_target_stretch : ((target 0 [1] []).scl (onWire false false 1 0 .ackd 1 (false, true)),
      ((target 0 [1] []).after (onWire false false 1 0 .ackd 1 (false, true))).scl (onWire false false 1 0 .ackd 1 (true, true)))
    = (false, true) := by decide

/-- R21, R340: `cmd_ready` is 0 in reset. -/
theorem test_cmd_ready_in_reset : cmdReady false fresh = false ∧ cmdReady true fresh = true := by decide

/-- R365: 100 cycles a second and 120 cycles a period. -/
theorem test_scl_frequency : sclFrequency 100 { E with divPred := #v[29, 1, 4, 9] } 0 = 5 / 6 := by
  show (100 : ℚ) / ((4 * 30 : ℕ) : ℚ) = 5 / 6
  norm_num

/-- R364: the example with 260 phases of 10 cycles. -/
theorem test_budget_above : budgetAbove 260 10 0 1 1 = 2603 := by decide

/-! ## Witnesses: states and operands that meet the hypotheses of each statement, clause by clause -/

def failed : State := { fresh with lc := .failed }
def waiting : State := { ready with lock := true, seq := .waitW, tcnt := 1 }
def primWaiting : State := { ready with lock := true, seq := .primW, tcnt := 1, cflag := true, evt := .addressNack, tbudget := 1 }
def phaseOne : State :=
  { ready with
    lock := true, seq := .rb1W, tcnt := 1, cflag := true, evt := .done, fes := .held, claimed := true, sclO := false, rlen := 8, tbudget := 1,
    nostop := true }
def phaseTwo : State := { phaseOne with seq := .rb2L }
def waitingPending : State := { pending .done with lock := true, seq := .waitW, tcnt := 1 }
def startWrite : State := onWire false false 9 0 .s 0 (true, true)
def startRead : State := onWire true false 8 0 .s 0 (true, true)
def restart : State := { onWire true false 8 0 .sr 1 (false, true) with claimed := true }
def addressBit : State := { onWire false false 1 0 .txa 1 (false, true) with shift := 0xD0, bitc := 7 }
def lastByte : State := { onWire true false 6 5 .mack 1 (false, true) with ridx := 6 }
def ackSlot : State := onWire false false 1 0 .acka 1 (false, true)
def stopRising : State := onWire false false 1 0 .p 1 (true, false)
def stopping : State := onWire false false 1 0 .p 3 (true, true)
def heldByte : State := { onWire true false 6 1 .rxbit 3 (true, true) with rxv := true, bitc := 0 }

theorem fresh_inv : Inv fresh := by
  refine ⟨?_, ?_, ?_, ?_, ?_, trivial⟩ <;> constructor <;> first | decide | exact fun h => absurd h (by decide)

theorem ready_inv : Inv ready := by
  refine ⟨?_, ?_, ?_, ?_, ?_, trivial⟩ <;> constructor <;> first | decide | exact fun h => absurd h (by decide)

theorem failed_inv : Inv failed := by
  refine ⟨?_, ?_, ?_, ?_, ?_, trivial⟩ <;> constructor <;> first | decide | exact fun h => absurd h (by decide)

theorem waiting_inv : Inv waiting := by
  refine ⟨?_, ?_, ?_, ?_, ?_, trivial⟩ <;> constructor <;> first | decide | exact fun h => absurd h (by decide)

theorem primWaiting_inv : Inv primWaiting := by
  refine ⟨?_, ?_, ?_, ?_, ?_, trivial⟩ <;> constructor <;> first | decide | exact fun h => absurd h (by decide)

theorem phaseOne_inv : Inv phaseOne := by
  refine ⟨?_, ?_, ?_, ?_, ?_, trivial⟩ <;> constructor <;> first | decide | exact fun h => absurd h (by decide)

theorem phaseTwo_inv : Inv phaseTwo := by
  refine ⟨?_, ?_, ?_, ?_, ?_, trivial⟩ <;> constructor <;> first | decide | exact fun h => absurd h (by decide)

theorem waitingPending_inv : Inv waitingPending := by
  refine ⟨?_, ?_, ?_, ?_, ?_, trivial⟩ <;> constructor <;> first | decide | exact fun h => absurd h (by decide)

theorem pending_inv : Inv (pending .busError) := by
  refine ⟨?_, ?_, ?_, ?_, ?_, trivial⟩ <;> constructor <;> first | decide | exact fun h => absurd h (by decide)

theorem startWrite_inv : Inv startWrite := by
  refine ⟨?_, ?_, ?_, ?_, ?_, trivial⟩ <;> constructor <;>
    first | decide | exact fun _ => trivial | exact fun _ => ⟨rfl, rfl⟩

theorem startRead_inv : Inv startRead := by
  refine ⟨?_, ?_, ?_, ?_, ?_, trivial⟩ <;> constructor <;>
    first | decide | exact fun _ => trivial | exact fun _ => ⟨rfl, rfl⟩

theorem restart_inv : Inv restart := by
  refine ⟨?_, ?_, ?_, ?_, ?_, trivial⟩ <;> constructor <;>
    first | decide | exact fun _ => trivial | exact fun _ => .inr rfl

theorem addressBit_inv : Inv addressBit := by
  refine ⟨?_, ?_, ?_, ?_, ?_, trivial⟩ <;> constructor <;>
    first | decide | exact fun _ => trivial | exact fun _ => .inr rfl

theorem lastByte_inv : Inv lastByte := by
  refine ⟨?_, ?_, ?_, ?_, ?_, trivial⟩ <;> constructor <;>
    first | decide | exact fun _ => trivial | exact fun _ => .inr rfl

theorem ackSlot_inv : Inv ackSlot := by
  refine ⟨?_, ?_, ?_, ?_, ?_, trivial⟩ <;> constructor <;>
    first | decide | exact fun _ => trivial | exact fun _ => .inr rfl

theorem stopRising_inv : Inv stopRising := by
  refine ⟨?_, ?_, ?_, ?_, ?_, trivial⟩ <;> constructor <;>
    first | decide | exact fun _ => trivial | exact fun _ => .inl rfl

theorem stopping_inv : Inv stopping := by
  refine ⟨?_, ?_, ?_, ?_, ?_, trivial⟩ <;> constructor <;>
    first | decide | exact fun _ => trivial | exact fun _ => .inl rfl

theorem heldByte_inv : Inv heldByte := by
  refine ⟨?_, ?_, ?_, ?_, ?_, trivial⟩ <;> constructor <;>
    first | decide | exact fun _ => trivial | exact fun _ => .inr rfl

/-- Parameter sets at both ends of the capacity. -/
theorem witness_parameters : ∀ x ∈ [(6, List.replicate 6 (0 : Byte)), (254, [0])],
    6 ≤ x.1 ∧ x.1 ≤ 254 ∧ (∀ _f : FreqCode, 0 < 1) ∧ 1 ≤ x.2.length ∧ x.2.length ≤ x.1 := by decide

theorem witness_reset : ∃ s, s = boot E [] [.host] 0 := ⟨_, rfl⟩

theorem witness_resetAnyTime : (default : EdgeIn).rstN = false ∧ (∃ e : EdgeIn, e.rstN = true ∧ e.cmdValid = true) ∧
    startWrite.lc ≠ .uninit ∧ ∃ t, exec .frst startWrite = .next t :=
  ⟨rfl, ⟨⟨true, true, true, true, true, true⟩, rfl, rfl⟩, by decide, exec_next _ _⟩

/-- A word of the program, a word of a pseudo-command in execution, a pseudo-command that begins, and a word placed by the host. -/
theorem witness_stepRunsCommand :
    (∃ s : State, s.agenda = [.host] ∧ s.prog = [.word 0x20000000] ∧ s.job = none ∧ s.lock = false ∧ decode 0x20000000 = .ok .frst
      ∧ (next? (perform .host { s with agenda := [], rsp := none })).isSome = true) ∧
    (∃ s : State, s.agenda = [.host] ∧ s.job = some .readBlock ∧ s.lock = false) ∧
    (∀ c ∈ [Pseudo.rdAxis, .initSensor 9 10 3], ∃ s : State, s.agenda = [.host] ∧ s.prog = [.call c] ∧ s.job = none ∧ s.lock = false) ∧
    decodeTableWord 32 0x80000107 = some (.stb 1 7) :=
  ⟨⟨{ ready with agenda := [.host], prog := [.word 0x20000000] }, rfl, rfl, rfl, rfl, by decide, by decide⟩,
    ⟨{ ready with agenda := [.host], job := some .readBlock }, rfl, rfl, rfl⟩,
    fun c _ => ⟨{ ready with agenda := [.host], prog := [.call c] }, rfl, rfl, rfl, rfl⟩, by decide⟩

/-- The reserved opcodes, and one reserved bit for each of the eleven commands, the lowest or the highest. -/
theorem witness_illegalWords :
    (∀ w ∈ [(0x00000000 : Word), 0xC1234567, 0xD0000000, 0xE0000000, 0xFFFFFFFF].attach,
      (w.1.extractLsb' 28 4).toNat ∈ [0x0, 0xC, 0xD, 0xE, 0xF]) ∧
    (∀ x ∈ [((0x10040000, 0x1, 0x0FFC0000) : Word × Nat × Word), (0x28000000, 0x2, 0x0FFFFFFF), (0x30000100, 0x3, 0x0380FF00),
        (0x41000000, 0x4, 0x0F000000), (0x50010000, 0x5, 0x0FFF0000), (0x68000000, 0x6, 0x0FFF0000), (0x70010000, 0x7, 0x0FFF0000),
        (0x88000000, 0x8, 0x0FFF0000), (0x90000001, 0x9, 0x0FFF00FF), (0xA8000000, 0xA, 0x0F000000), (0xB0000080, 0xB, 0x0FFF00FF)].attach,
      (x.1.1.extractLsb' 28 4).toNat = x.1.2.1 ∧ x.1.1 &&& x.1.2.2 ≠ 0) ∧
    (∃ s : State, s.prog = [.word 0] ∧ s.job = none ∧ s.lock = false) :=
  ⟨by decide, by decide, { fresh with prog := [.word 0] }, rfl, rfl, rfl⟩

theorem witness_decodedWords : decode 0x3C7F00FF = .ok (.submitRN 0x7F 0xFF) := by decide

/-- Words for each of the three cases, at the ends of the opcodes. -/
theorem witness_opcodeMap :
    ((0x0FFFFFFF : Word).extractLsb' 28 4).toNat = 0 ∧ 0xB < ((0xC0000000 : Word).extractLsb' 28 4).toNat ∧
    (opcodeMap.all (fun r => (0x10040000 : Word) &&& r.mask != r.matchBits) = true ∧ ((0x10040000 : Word).extractLsb' 28 4).toNat = 1) ∧
    (opcodeMap.all (fun r => (0xBFFFFFFF : Word) &&& r.mask != r.matchBits) = true ∧ ((0xBFFFFFFF : Word).extractLsb' 28 4).toNat = 0xB) ∧
    (opcodeMap.any (fun r => (0xB000FF00 : Word) &&& r.mask == r.matchBits) = true) ∧ decode 0xB000FF00 = .ok (.rdst 0xFF) := by decide

theorem witness_assembler : (AsmLine.mk .INIT [255, 255, 3]).assemble = some (.init 255 255 3) := by decide

theorem witness_init :
    ready.lc ≠ .uninit ∧ (fresh.lc = .uninit ∧ fresh.par.initOk 9 10 1 = true) ∧
    ((State.resetOf { E with initRefused := [(9, 10, 1)] }).lc = .uninit
      ∧ (State.resetOf { E with initRefused := [(9, 10, 1)] }).par.initOk 9 10 1 = false) := by decide

theorem witness_failed : (Inv failed ∧ failed.lc = .failed) ∧ isReset .seq = false ∧ ∃ t, perform .seq failed = .next t :=
  ⟨⟨failed_inv, rfl⟩, rfl, _, rfl⟩

theorem witness_frst : startWrite.busy = true ∧ fresh.lc ≠ .ready ∧ ∃ t, exec .frst startWrite = .next t := ⟨rfl, by decide, exec_next _ _⟩

/-- The largest write and the largest read. -/
theorem witness_accepted : armed.lc = .ready ∧ armed.busy = false ∧ armed.armed = true ∧ (9 : Byte) ≠ 0 ∧ (8 : Byte) ≠ 0 ∧
    (9 : Byte).toNat ≤ armed.par.txCap ∧ (8 : Byte).toNat ≤ armed.par.rxCap := by decide

/-- A state for each cause; the lengths are the first ones too long. -/
theorem witness_rejected :
    fresh.lc ≠ .ready ∧ (startWrite.lc = .ready ∧ startWrite.busy = true) ∧
    (ready.lc = .ready ∧ ready.busy = false ∧ ready.armed = false) ∧
    (armed.lc = .ready ∧ armed.busy = false ∧ armed.armed = true) ∧
    armed.par.txCap < (10 : Byte).toNat ∧ armed.par.rxCap < (9 : Byte).toNat ∧
    (9 : Byte).toNat ≤ armed.par.txCap ∧ (8 : Byte).toNat ≤ armed.par.rxCap := by decide

/-- The last iteration with and without the flag, and one that is not the last. -/
theorem witness_wait :
    (waiting.lock = true ∧ waiting.seq = .waitW ∧ waiting.tcnt = 1 ∧ waiting.tcnt ≠ 0 ∧ waiting.cflag = false) ∧
    ({ waiting with cflag := true }.cflag = true ∧ { waiting with tcnt := 2 }.tcnt ≠ 1) := by decide

/-- A budget of 2: one iteration is fewer, two are all. -/
theorem witness_exactWait :
    Inv ready ∧ ready.lock = false ∧ (2 : Imm24) ≠ 0 ∧ (∃ t, exec (.wait 2) ready = .next t) ∧
    (∀ m ∈ [Move.mover, .seq], isReset m = false) ∧
    (∀ k u, runMoves ([Move.mover, .seq].take k) { ready with tcnt := 2, lock := true, seq := .waitW } = .next u → u.cflag = false) ∧
    [Move.mover, .seq].countP stepsSequencer < (2 : Imm24).toNat ∧
    stepsSequencer .seq = true ∧ [Move.mover, .seq].countP stepsSequencer + 1 = (2 : Imm24).toNat ∧
    (2 : Imm24).toNat ≤ [Move.seq, .seq].countP stepsSequencer := by
  refine ⟨ready_inv, rfl, by decide, exec_next _ _, by decide, ?_, by decide, rfl, by decide, by decide⟩
  rintro (_ | _ | k) u h
  · cases h; rfl
  · cases h; rfl
  · rw [show [Move.mover, .seq].take (k + 2) = [.mover, .seq] by simp] at h
    cases h; rfl

theorem witness_multiStep :
    Inv ready ∧ ready.lock = false ∧ ready.rsp = none ∧ exec (.wait 1) ready = .next { ready with tcnt := 1, lock := true, seq := .waitW } ∧
    stepsLeft { ready with tcnt := 1, lock := true, seq := .waitW } ≤ [Move.seq].countP stepsSequencer :=
  ⟨ready_inv, rfl, rfl, rfl, by decide⟩

/-- The largest block, with a budget and without one, where `WREG` may carry a value above the largest block. -/
theorem witness_primitives :
    (armed.lc = .ready ∧ armed.busy = false ∧ { armed with tbudget := 1 }.tbudget ≠ 0 ∧ (8 : Byte) ≠ 0 ∧ (8 : Byte).toNat ≤ armed.par.dataCap) ∧
    (armed.tbudget = 0 ∧ ∀ x : Byte, (Instr.wreg 0x6B x, x).1 = .wreg 0x6B x) := by decide

theorem witness_primitivesRejected :
    fresh.lc ≠ .ready ∧ (startRead.lc = .ready ∧ startRead.busy = true) ∧ (ready.lc = .ready ∧ ready.busy = false) ∧
    ready.par.dataCap < (9 : Byte).toNat ∧ (8 : Byte).toNat ≤ ready.par.dataCap := by decide

theorem witness_staging : (∃ t, exec (.wreg 1 2) ready = .next t) ∧ ∀ i ∈ [Instr.wblk 1 2, .rblk 1 2], ∃ t, exec i ready = .next t :=
  ⟨exec_next _ _, fun i _ => exec_next i _⟩

theorem witness_frameWait :
    Inv primWaiting ∧ (primWaiting.lock = true ∧ primWaiting.seq = .primW ∧ primWaiting.tcnt ≠ 0 ∧ primWaiting.cflag = true ∧ primWaiting.evt = .addressNack) ∧
    ({ primWaiting with cflag := false }.cflag = false ∧ primWaiting.tcnt = 1 ∧ { primWaiting with tcnt := 2 }.tcnt ≠ 1) :=
  ⟨primWaiting_inv, by decide⟩

theorem witness_phaseTwo :
    (phaseOne.lock = true ∧ phaseOne.seq = .rb1W ∧ phaseOne.tcnt = 1 ∧ phaseOne.tcnt ≠ 0 ∧ phaseOne.cflag = true ∧ phaseOne.evt = .done) ∧
    ({ phaseOne with evt := .busError }.evt = .busError ∧ { phaseOne with cflag := false, tcnt := 2 }.tcnt ≠ 1) ∧
    Inv phaseTwo ∧ phaseTwo.seq = .rb2L :=
  ⟨by decide, by decide, phaseTwo_inv, rfl⟩

/-- Both ways on from phase one, and another agent's move in between. -/
theorem witness_graph :
    (ready.lock = false ∧ ready.seq = .idle ∧ ∃ t, exec (.rblk 0x3B 6) ready = .next t) ∧
    (Inv phaseOne ∧ ∃ t, perform .seq phaseOne = .next t) ∧
    (isReset .cb = false ∧ stepsSequencer .cb = false ∧ phaseOne.lock = true ∧ ∃ t, perform .cb phaseOne = .next t) :=
  ⟨⟨rfl, rfl, exec_next _ _⟩, ⟨phaseOne_inv, _, rfl⟩, rfl, rfl, rfl, _, rfl⟩

/-- The last legal index, the first illegal one, and a write frame outstanding. -/
theorem witness_stb :
    ((8 : Byte).toNat < ready.par.txCap ∧ ready.busy = false ∧ startRead.dir = true) ∧ ready.par.txCap ≤ (9 : Byte).toNat ∧
    (startWrite.busy = true ∧ startWrite.dir = false) := by decide

theorem witness_ldb :
    ((7 : Byte).toNat < ready.par.rxCap ∧ ready.busy = false ∧ startWrite.dir = false ∧ Memory.get ready.rxb 7 = none) ∧
    Memory.get { ready with rxb := [(7, 0xFE)] }.rxb 7 = some 0xFE ∧
    ready.par.rxCap ≤ (8 : Byte).toNat ∧ (startRead.busy = true ∧ startRead.dir = true) := by decide

theorem witness_rdst : 5 < (6 : Byte).toNat := by decide

theorem witness_answers :
    (ready.lock = false ∧ ready.rsp = none ∧ ∃ t, exec (.ldb 0) ready = .next t) ∧
    (Inv waiting ∧ waiting.lock = true ∧ waiting.rsp = none ∧ ∃ t, perform .seq waiting = .next t) :=
  ⟨⟨rfl, rfl, exec_next _ _⟩, waiting_inv, rfl, rfl, _, rfl⟩

/-- A phase performed with a bit sent, a phase that samples with SCL released and one that does not with SCL low, and the end of a frame. -/
theorem witness_lines :
    (Inv addressBit ∧ addressBit.fes = .run ∧
      look (fun t => (t.evtp, t.sclO, t.sdaO)) (perform (.fe true true) addressBit) = some (.none, true, true)) ∧
    (Inv ackSlot ∧ ackSlot.fes = .run ∧ ackSlot.sym = .acka ∧ ackSlot.phi = 1 ∧
      look (fun t => (t.evtp, t.samp)) (perform (.fe true true) ackSlot) = some (.none, true)) ∧
    (Inv stopping ∧ stopping.fes = .run ∧ look (·.evtp) (perform (.fe false true) stopping) = some .done) :=
  ⟨⟨addressBit_inv, rfl, by decide⟩, ⟨ackSlot_inv, rfl, rfl, rfl, by decide⟩, stopping_inv, rfl, by decide⟩

def idleEdge : EdgeIn := ⟨true, false, true, true, false, false⟩

/-- An edge that lowers SDA, as START, one that raises it, as STOP, and one that does nothing. -/
theorem witness_linesOut :
    (Inv startWrite ∧ linesOut startWrite ∧
      look (fun t => (t.sclO, t.sdaO, t.sym, t.phi)) (perform (.edge idleEdge) startWrite) = some (true, false, .s, 1)) ∧
    (Inv stopRising ∧ linesOut stopRising ∧
      look (fun t => (t.sclO, t.sdaO, t.sym, t.phi)) (perform (.edge idleEdge) stopRising) = some (true, true, .p, 2)) ∧
    (Inv ready ∧ linesOut ready ∧ ∃ t, perform (.edge idleEdge) ready = .next t) :=
  ⟨⟨startWrite_inv, fun _ => rfl, by decide⟩, ⟨stopRising_inv, fun _ => rfl, by decide⟩, ready_inv, fun h => absurd h (by decide), _, rfl⟩

theorem witness_heldClock :
    (Inv addressBit ∧ addressBit.fes = .run ∧ addressBit.sym ≠ .s ∧ addressBit.sym ≠ .h ∧ addressBit.phi = 1) ∧
    (Inv stopping ∧ stopping.fes = .run ∧ stopping.phi ≠ 1) :=
  ⟨⟨addressBit_inv, rfl, by decide, by decide, rfl⟩, stopping_inv, rfl, by decide⟩

/-- Each of the four causes, the third with a sent bit and with the master's NACK. -/
theorem witness_busError :
    (Inv startWrite ∧ look (·.evtp) (perform (.fe false true) startWrite) = some .busError) ∧
    (Inv restart ∧ look (·.evtp) (perform (.fe true false) restart) = some .busError) ∧
    (Inv addressBit ∧ look (·.evtp) (perform (.fe true false) addressBit) = some .busError) ∧
    (Inv lastByte ∧ look (·.evtp) (perform (.fe true false) lastByte) = some .busError) ∧
    (Inv stopping ∧ look (·.evtp) (perform (.fe true false) stopping) = some .busError) :=
  ⟨⟨startWrite_inv, by decide⟩, ⟨restart_inv, by decide⟩, ⟨addressBit_inv, by decide⟩, ⟨lastByte_inv, by decide⟩, stopping_inv, by decide⟩

theorem witness_addressPhase :
    (onWire false false 1 0 .s 2 (true, false)).fes = .run ∧ (onWire true false 1 0 .sr 3 (true, false)).phi = 3 ∧
    ({ onWire false false 1 0 .txa 3 (true, true) with bitc := 7 }.bitc ≠ 0 ∧ (onWire false false 1 0 .txa 3 (true, true)).bitc = 0) ∧
    ({ onWire false false 1 0 .acka 3 (true, true) with samp := true }.samp = true ∧ (onWire true false 1 0 .acka 3 (true, true)).dir = true) ∧
    (Memory.get (onWire false false 1 0 .acka 3 (true, true)).txb 0 = none
      ∧ Memory.get { onWire false false 1 0 .acka 3 (true, true) with txb := [(0, 0x6B)] }.txb 0 = some 0x6B) := by decide

/-- The first byte but one of the largest frame, and its last. -/
theorem witness_writeData :
    ((onWire false false 9 0 .ackd 3 (true, true)).fes = .run ∧ (onWire false false 9 0 .ackd 3 (true, true)).phi = 3
      ∧ (9 : Byte).toNat ≤ E.txCap ∧ (0 : Byte).toNat + 1 < (9 : Byte).toNat ∧ (8 : Byte).toNat + 1 = (9 : Byte).toNat) ∧
    (Memory.get (onWire false false 9 0 .ackd 3 (true, true)).txb 1 = none
      ∧ Memory.get { onWire false false 9 0 .ackd 3 (true, true) with txb := [(1, 7)] }.txb 1 = some 7) ∧
    ({ onWire false false 9 0 .txd 3 (true, true) with bitc := 1 }.bitc ≠ 0 ∧ (onWire false false 9 0 .txd 3 (true, true)).bitc = 0) := by decide

theorem witness_readData :
    (heldByte.fes = .run ∧ heldByte.phi = 3 ∧ heldByte.sym = .rxbit ∧ heldByte.bitc = 0 ∧ heldByte.rxv = true) ∧
    ({ heldByte with bitc := 7 }.bitc ≠ 0 ∧ { heldByte with rxv := false }.rxv = false) ∧
    ((onWire true false 6 4 .mack 3 (true, false)).errc = .none ∧ (4 : Byte).toNat + 1 < (6 : Byte).toNat
      ∧ (5 : Byte).toNat + 1 = (6 : Byte).toNat ∧ { lastByte with errc := .overrun }.errc ≠ .none) := by decide

theorem witness_frameEnds :
    ((onWire false true 1 0 .h 0 (false, true)).fes = .run ∧ (onWire false true 1 0 .h 0 (false, true)).phi = 0) ∧
    (stopping.sym = .p ∧ stopping.phi = 3 ∧ stopping.errc = .none ∧ stopping.dir = false ∧ stopping.rxv = false
      ∧ { stopping with errc := .addressNack }.errc ≠ .none) ∧
    ({ stopping with dir := true, rxv := true }.dir = true ∧ { stopping with fes := .drain, rxv := true }.fes = .drain) := by decide

theorem witness_mover : Inv heldByte ∧ heldByte.rxv = true := ⟨heldByte_inv, rfl⟩

theorem witness_delivery : (pending .busError).evtp ≠ .none ∧ (pending .busError).ien = true ∧ (pending .busError).hreg = true ∧
    Inv (pending .busError) := ⟨by decide, rfl, rfl, pending_inv⟩

theorem witness_notEnabled :
    waiting.lock = true ∧ ready.lock = false ∧ ready.fes = .idle ∧ phaseTwo.fes = .held ∧ ready.rxv = false ∧ ready.evtp = .none ∧
    ({ fresh with evtp := .done }.ien = false ∧ { fresh with evtp := .done }.hreg = false) := by decide

theorem witness_invariant : Inv heldByte ∧ ∃ t, step { heldByte with agenda := [.mover] } = .next t := ⟨heldByte_inv, _, rfl⟩

/-- The reset state, and one step on. -/
theorem witness_reachable : Reachable (boot E [] [.host] 0) ∧ Reachable (boot E [] [] 0) :=
  ⟨.boot _ _ _ _, .step (.boot E [] [.host] 0) rfl⟩

/-- The step in which `INIT` configures, and a step after it. -/
theorem witness_configuration :
    (isReset .host = false ∧ look (·.lc) (perform .host { fresh with prog := [.word 0x1001090A] }) = some .ready) ∧
    (ready.lc ≠ .uninit ∧ look (·.lc) (perform .host { ready with prog := [.word 0x10030102] }) = some .ready) ∧
    look (·.lc) (exec (.init 9 10 1) fresh) = some .ready := by decide

/-- A step of each writer. -/
theorem witness_writers :
    (isReset .cb = false ∧ look (·.evt) (perform .cb (pending .dataNack)) = some .dataNack) ∧
    look (·.cflag) (perform .host { ready with cflag := true, prog := [.word 0x20000000] }) = some false ∧
    look (·.evtp) (perform (.fe true true) stopping) = some .done ∧
    (ready.lock = false ∧ look (·.busy) (exec (.submitW 0x68 2) armed) = some true) := by decide

theorem witness_bufferWriters :
    (Inv heldByte ∧ look (fun t => decide (t.rxb ≠ heldByte.rxb)) (perform .mover heldByte) = some true) ∧
    (Inv ready ∧ look (fun t => decide (t.txb ≠ ready.txb)) (perform .host { ready with prog := [.word 0x80000107] }) = some true) ∧
    (Inv startWrite ∧ startWrite.busy = true ∧ startWrite.dir = false ∧ ∃ t, perform .mover startWrite = .next t) :=
  ⟨⟨heldByte_inv, by decide⟩, ⟨ready_inv, by decide⟩, startWrite_inv, rfl, rfl, _, rfl⟩

theorem witness_orphan : (Inv startWrite ∧ startWrite.busy = true) ∧
    (Inv (pending .busError) ∧ (pending .busError).busy = true ∧ (pending .busError).evtp ≠ .none) :=
  ⟨⟨startWrite_inv, rfl⟩, pending_inv, rfl, by decide⟩

/-- The four kinds of meeting on one edge. -/
theorem witness_sameEdge :
    (Inv waitingPending ∧ waitingPending.evtp ≠ .none ∧ waitingPending.seq = .waitW ∧ waitingPending.cflag = false ∧ waitingPending.tcnt = 1) ∧
    (Inv { pending .busError with prog := [.word 0x20000000] } ∧ (pending .busError).lock = false ∧ (pending .busError).job = none) ∧
    (Inv heldByte ∧ heldByte.fes = .run ∧ heldByte.sym = .rxbit ∧ heldByte.phi = 3 ∧ heldByte.bitc = 0 ∧ heldByte.qcnt = 1 ∧ heldByte.rxv = true) ∧
    (Inv waiting ∧ waiting.lock = true) :=
  ⟨⟨waitingPending_inv, by decide, rfl, rfl, rfl⟩,
    ⟨surroundings_inv pending_inv none [.word 0x20000000] none [] [] 0, rfl, rfl⟩,
    ⟨heldByte_inv, rfl, rfl, rfl, rfl, rfl, rfl⟩, waiting_inv, rfl⟩

/-- The engine alone on an edge: waiting for SCL, in the last cycle of a phase, before it, and in a phase that may have SCL held. -/
theorem witness_clock :
    (Inv addressBit ∧ addressBit.fes = .run ∧ addressBit.lock = false ∧ addressBit.phi = 1 ∧ addressBit.sym ≠ .s ∧ addressBit.qcnt = 1) ∧
    (Inv stopping ∧ stopping.fes = .run ∧ stopping.lock = false ∧ stopping.phi ≠ 1) ∧
    Inv { startWrite with freq := 3, qcnt := 10 } :=
  ⟨⟨addressBit_inv, rfl, rfl, rfl, by decide, rfl⟩, ⟨stopping_inv, rfl, rfl, by decide⟩,
    { startWrite_inv with
      lifecycle := { startWrite_inv.lifecycle with }, arbiter := { startWrite_inv.arbiter with },
      frame := { startWrite_inv.frame with phase_count := by decide },
      sequencer := { startWrite_inv.sequencer with }, buffers := { startWrite_inv.buffers with } }⟩

/-- The largest write frame in E, every byte acknowledged, with nothing in `TXB` or with all of it stored. -/
theorem witness_writeFrame :
    Inv startWrite ∧ startWrite.fes = .run ∧ startWrite.sym = .s ∧ startWrite.phi = 0 ∧ startWrite.dir = false ∧
    (List.replicate 9 false).length = startWrite.len.toNat :=
  ⟨startWrite_inv, rfl, rfl, rfl, rfl, rfl⟩

theorem witness_writeFrameBytes : ∃ s : State, s = { startWrite with txb := (List.range 9).map (fun j => (j, BitVec.ofNat 8 j)) } ∧ Inv s ∧
    ∀ j < 9, Memory.get s.txb j = ((List.range 9).map (BitVec.ofNat 8))[j]? :=
  ⟨_, rfl, { startWrite_inv with
    lifecycle := { startWrite_inv.lifecycle with }, arbiter := { startWrite_inv.arbiter with }, frame := { startWrite_inv.frame with },
    sequencer := { startWrite_inv.sequencer with },
    buffers := { startWrite_inv.buffers with txb_wf := by decide, txb_within := by decide } }, by decide⟩

theorem witness_readFrame :
    Inv startRead ∧ startRead.fes = .run ∧ startRead.sym = .s ∧ startRead.phi = 0 ∧ startRead.dir = true ∧
    (List.replicate 8 (0xA0 : Byte)).length = startRead.len.toNat :=
  ⟨startRead_inv, rfl, rfl, rfl, rfl, rfl⟩

/-- The last byte but one is the first late one. -/
theorem witness_lateRead : Inv startRead ∧ startRead.dir = true ∧ (List.replicate 6 (0xA0 : Byte)).length + 2 ≤ startRead.len.toNat :=
  ⟨startRead_inv, rfl, by decide⟩

theorem witness_initSensor : { fresh with job := some (.initSensor .init 9 10 0) }.job = some (.initSensor .init 9 10 0) ∧
    (0x00000007 : Word).extractLsb' 0 4 ≠ 0 ∧ (0x00000000 : Word).extractLsb' 0 4 = 0 ∧
    (List.replicate 4 (0 : Word)).length = fresh.par.cfgLen ∧ fresh.par.cfgData[3]? = some 0x18 := by decide

theorem witness_rdAxis : { ready with job := some .readBlock }.job = some .readBlock ∧ (0x00000002 : Word).extractLsb' 0 4 ≠ 0 ∧
    (0x00000000 : Word).extractLsb' 0 4 = 0 ∧ ∀ k : Fin 6, (#v[0x100, 0x200, 0x300, 0x400, 0xFF00, 0xFE00] : Vector Word 6)[k].extractLsb' 8 8
      = (#v[0x01, 0x02, 0x03, 0x04, 0xFF, 0xFE] : Vector Byte 6)[k] := by decide

theorem witness_canonical : Memory.wf [(0, 1), (8, 2)] ∧ (0 : Nat) ≠ 8 := by decide

end Sys2Proof.Tests
end

section
/-! Parameter sets (spec/00_scope.md R8 to R13): the bounds every value of `Params` meets, and the value of each legal choice. -/

namespace Sys2Proof

/-- Every value of `n` bits. -/
def allBits (n : Nat) : List (BitVec n) := (List.finRange (2 ^ n)).map BitVec.ofFin

theorem mem_allBits {n : Nat} (x : BitVec n) : x ∈ allBits n :=
  List.mem_map.2 ⟨x.toFin, List.mem_finRange _, rfl⟩

/-- The arguments a predicate of R12 refuses, as the list `Params.initRefused` holds. -/
def refusedBy (ok : Byte → Byte → FreqCode → Bool) : List (Byte × Byte × FreqCode) :=
  (allBits 8 ×ˢ allBits 8 ×ˢ allBits 2).filter fun x => !ok x.1 x.2.1 x.2.2

theorem mem_refusedBy {ok : Byte → Byte → FreqCode → Bool} {scl sda : Byte} {f : FreqCode} :
    (scl, sda, f) ∈ refusedBy ok ↔ ok scl sda f = false := by
  simp [refusedBy, mem_allBits]

/-- The value of `Params` with the parameters of R8 to R13; the bytes a choice of them leaves open are 0. -/
def Params.ofChoice (cap : Nat) (hcap : cap ≤ 254) (addr : BusAddr) (tmo : Imm24) (div : FreqCode → Nat)
    (ok : Byte → Byte → FreqCode → Bool) (cfg : List Byte) : Params where
  targetAddr := addr
  capIndex := ⟨cap - 6, by omega⟩
  tmoDefault := tmo
  divPred := .ofFn fun f => div (.ofFin f) - 1
  initRefused := refusedBy ok
  sprReg := 0
  sprVal := 0
  pwrReg := 0
  pwrVal := 0
  cfgBase := 0
  cfgHead := cfg.headD 0
  cfgTail := cfg.tail

section Choice

variable {cap : Nat} {hcap : cap ≤ 254} {addr : BusAddr} {tmo : Imm24} {div : FreqCode → Nat}
  {ok : Byte → Byte → FreqCode → Bool} {cfg : List Byte}

theorem Params.ofChoice_dataCap (h : 6 ≤ cap) : (Params.ofChoice cap hcap addr tmo div ok cfg).dataCap = cap := by
  simp only [Params.dataCap, Params.ofChoice]
  omega

theorem Params.ofChoice_div (h : ∀ f, 0 < div f) : (Params.ofChoice cap hcap addr tmo div ok cfg).div = div := by
  funext f
  simpa [Params.div, Params.ofChoice] using Nat.sub_add_cancel (h f)

theorem Params.ofChoice_initOk : (Params.ofChoice cap hcap addr tmo div ok cfg).initOk = ok := by
  funext scl sda f
  simp [Params.initOk, Params.ofChoice, mem_refusedBy]

theorem Params.ofChoice_cfgData (h : 6 ≤ cap) (hpos : 1 ≤ cfg.length) (hfits : cfg.length ≤ cap) :
    (Params.ofChoice cap hcap addr tmo div ok cfg).cfgData = cfg := by
  rw [Params.cfgData, Params.ofChoice_dataCap h]
  cases cfg with
  | nil => simp at hpos
  | cons b bs => exact List.take_of_length_le hfits

end Choice

theorem Params.dataCap_bounds (p : Params) : 6 ≤ p.dataCap ∧ p.dataCap ≤ 254 := by
  have := p.capIndex.isLt
  unfold Params.dataCap
  omega

theorem Params.cfgLen_bounds (p : Params) : 1 ≤ p.cfgLen ∧ p.cfgLen ≤ p.dataCap := by
  have := p.dataCap_bounds
  simp only [Params.cfgLen, Params.cfgData, List.length_take, List.length_cons]
  omega

/-- Settles O1: one direction by the bounds of `Params`, the other by the value `Params.ofChoice`. -/
theorem parametersAreExactlyTheLegalOnes : Obligations.ParametersAreExactlyTheLegalOnes := by
  refine ⟨fun p => ?_, fun cap addr tmo div ok cfg hlow hcap hdiv hpos hfits => ?_⟩
  · obtain ⟨hlow, hhigh⟩ := p.dataCap_bounds
    exact ⟨hlow, hhigh, rfl, rfl, fun f => Nat.succ_pos _, p.cfgLen_bounds⟩
  · exact ⟨.ofChoice cap hcap addr tmo div ok cfg, Params.ofChoice_dataCap hlow, rfl, rfl, Params.ofChoice_div hdiv,
      Params.ofChoice_initOk, Params.ofChoice_cfgData hlow hpos hfits⟩

end Sys2Proof
end

section
/-! Encoding and decoding, field by field, up to the round trip from commands to words and back (spec/30_encoding.md R110 to R116). -/

namespace Sys2Proof

/-! ### Words as numbers -/

/-- A concatenation as a number: the high part above the low one. -/
theorem toNat_append_eq_add {m n : Nat} (x : BitVec m) (y : BitVec n) : (x ++ y).toNat = x.toNat * 2 ^ n + y.toNat := by
  rw [BitVec.toNat_append, ← Nat.shiftLeft_add_eq_or_of_lt y.isLt, Nat.shiftLeft_eq]

theorem slice_toNat (w : Word) (lo n : Nat) : (slice w lo n).toNat = w.toNat / 2 ^ lo % 2 ^ n := by
  rw [slice, BitVec.extractLsb'_toNat, Nat.shiftRight_eq_div_pow]

/-- A field of a word is told by the word's number. -/
theorem slice_eq_of_toNat {w : Word} {lo n : Nat} {x : BitVec n} (h : w.toNat / 2 ^ lo % 2 ^ n = x.toNat) : slice w lo n = x :=
  BitVec.eq_of_toNat_eq ((slice_toNat w lo n).trans h)

theorem wordAB_toNat (op : BitVec 4) (a b : Byte) :
    (wordAB op a b).toNat = op.toNat * 2 ^ 28 + a.toNat * 2 ^ 8 + b.toNat := by
  simp only [wordAB, toNat_append_eq_add, BitVec.ofNat_eq_ofNat, BitVec.toNat_ofNat]
  omega

theorem wordT_toNat (op : BitVec 4) (imm : Imm24) : (wordT op imm).toNat = op.toNat * 2 ^ 28 + imm.toNat := by
  simp only [wordT, toNat_append_eq_add, BitVec.ofNat_eq_ofNat, BitVec.toNat_ofNat]
  omega

theorem wordS_toNat (dir nostop : BitVec 1) (addr : BusAddr) (len : Byte) : (wordS dir nostop addr len).toNat =
    0x3 * 2 ^ 28 + dir.toNat * 2 ^ 27 + nostop.toNat * 2 ^ 26 + addr.toNat * 2 ^ 16 + len.toNat := by
  simp only [wordS, toNat_append_eq_add, BitVec.ofNat_eq_ofNat, BitVec.toNat_ofNat]
  omega

theorem encode_init_toNat (scl sda : Byte) (f : FreqCode) : (encode (.init scl sda f)).toNat =
    0x1 * 2 ^ 28 + f.toNat * 2 ^ 16 + scl.toNat * 2 ^ 8 + sda.toNat := by
  simp only [encode, toNat_append_eq_add, BitVec.ofNat_eq_ofNat, BitVec.toNat_ofNat]
  omega

/-! ### The opcode of each format -/

@[simp] theorem opcode_wordAB (op : BitVec 4) (a b : Byte) : opcode (wordAB op a b) = op :=
  slice_eq_of_toNat (by rw [wordAB_toNat]; omega)

@[simp] theorem opcode_wordT (op : BitVec 4) (imm : Imm24) : opcode (wordT op imm) = op :=
  slice_eq_of_toNat (by rw [wordT_toNat]; omega)

@[simp] theorem opcode_wordS (dir nostop : BitVec 1) (addr : BusAddr) (len : Byte) : opcode (wordS dir nostop addr len) = 3#4 :=
  slice_eq_of_toNat (by rw [wordS_toNat, BitVec.toNat_ofNat]; omega)

@[simp] theorem opcode_encode_init (scl sda : Byte) (f : FreqCode) : opcode (encode (.init scl sda f)) = 1#4 :=
  slice_eq_of_toNat (by rw [encode_init_toNat, BitVec.toNat_ofNat]; omega)

/-! ### Each format's reader on its own words -/

@[simp] theorem ifClear_true (i : Instr) : ifClear true i = .ok i := rfl

@[simp] theorem slice_wordAB_reserved (op : BitVec 4) (a b : Byte) : slice (wordAB op a b) 16 12 = 0#12 :=
  slice_eq_of_toNat (by rw [wordAB_toNat, BitVec.toNat_ofNat]; omega)

@[simp] theorem slice_wordAB_high (op : BitVec 4) (a b : Byte) : slice (wordAB op a b) 8 8 = a :=
  slice_eq_of_toNat (by rw [wordAB_toNat]; omega)

@[simp] theorem slice_wordAB_low (op : BitVec 4) (a b : Byte) : slice (wordAB op a b) 0 8 = b :=
  slice_eq_of_toNat (by rw [wordAB_toNat]; omega)

theorem decodeAB_wordAB (op : BitVec 4) (a b : Byte) (mk : Byte → Byte → Instr) : decodeAB (wordAB op a b) mk = .ok (mk a b) := by
  simp [decodeAB]

theorem decodeA_wordAB (op : BitVec 4) (a : Byte) (mk : Byte → Instr) : decodeA (wordAB op a 0#8) mk = .ok (mk a) := by
  simp [decodeA]

theorem decodeT_wordT (op : BitVec 4) (imm : Imm24) (mk : Imm24 → Instr) : decodeT (wordT op imm) mk = .ok (mk imm) := by
  have hreserved : slice (wordT op imm) 24 4 = 0#4 := slice_eq_of_toNat (by rw [wordT_toNat, BitVec.toNat_ofNat]; omega)
  have himm : slice (wordT op imm) 0 24 = imm := slice_eq_of_toNat (by rw [wordT_toNat]; omega)
  simp [decodeT, hreserved, himm]

theorem decodeS_wordS (dir nostop : BitVec 1) (addr : BusAddr) (len : Byte) :
    decodeS (wordS dir nostop addr len) = .ok (submitForm dir nostop addr len) := by
  have hdir : slice (wordS dir nostop addr len) 27 1 = dir := slice_eq_of_toNat (by rw [wordS_toNat]; omega)
  have hnostop : slice (wordS dir nostop addr len) 26 1 = nostop := slice_eq_of_toNat (by rw [wordS_toNat]; omega)
  have hreserved₁ : slice (wordS dir nostop addr len) 23 3 = 0#3 := slice_eq_of_toNat (by rw [wordS_toNat, BitVec.toNat_ofNat]; omega)
  have haddr : slice (wordS dir nostop addr len) 16 7 = addr := slice_eq_of_toNat (by rw [wordS_toNat]; omega)
  have hreserved₂ : slice (wordS dir nostop addr len) 8 8 = 0#8 := slice_eq_of_toNat (by rw [wordS_toNat, BitVec.toNat_ofNat]; omega)
  have hlen : slice (wordS dir nostop addr len) 0 8 = len := slice_eq_of_toNat (by rw [wordS_toNat]; omega)
  simp [decodeS, hdir, hnostop, hreserved₁, haddr, hreserved₂, hlen]

theorem decodeI_encode_init (scl sda : Byte) (f : FreqCode) : decodeI (encode (.init scl sda f)) = .ok (.init scl sda f) := by
  have hreserved : slice (encode (.init scl sda f)) 18 10 = 0#10 := slice_eq_of_toNat (by rw [encode_init_toNat, BitVec.toNat_ofNat]; omega)
  have hfreq : slice (encode (.init scl sda f)) 16 2 = f := slice_eq_of_toNat (by rw [encode_init_toNat]; omega)
  have hscl : slice (encode (.init scl sda f)) 8 8 = scl := slice_eq_of_toNat (by rw [encode_init_toNat]; omega)
  have hsda : slice (encode (.init scl sda f)) 0 8 = sda := slice_eq_of_toNat (by rw [encode_init_toNat]; omega)
  simp [decodeI, hreserved, hfreq, hscl, hsda]

/-- Decoding the word of a command gives the command back: its opcode selects its format, and the format's reader finds the operands. -/
theorem decode_encode (i : Instr) : decode (encode i) = .ok i := by
  cases i with
  | init scl sda f => simp [decode, decodeI_encode_init]
  | frst => decide
  | submitW a n => simp [decode, encode, decodeS_wordS, submitForm]
  | submitWN a n => simp [decode, encode, decodeS_wordS, submitForm]
  | submitR a n => simp [decode, encode, decodeS_wordS, submitForm]
  | submitRN a n => simp [decode, encode, decodeS_wordS, submitForm]
  | wait b => simp [decode, encode, decodeT_wordT]
  | wreg r v => simp [decode, encode, decodeAB_wordAB]
  | wblk r n => simp [decode, encode, decodeAB_wordAB]
  | rblk r n => simp [decode, encode, decodeAB_wordAB]
  | stb i b => simp [decode, encode, decodeAB_wordAB]
  | ldb i => simp [decode, encode, decodeA_wordAB]
  | stmo b => simp [decode, encode, decodeT_wordT]
  | rdst s => simp [decode, encode, decodeA_wordAB]

end Sys2Proof
end

section
/-! One step: the move taken from the agenda, the command a host's turn runs, and the moves of agents that are not enabled
(spec/00_scope.md R18, R19; spec/46_host_sequences.md R275). -/

namespace Sys2Proof.Machine

/-! ### What a command leaves alone -/

/-- What stands around the block: its parameters, the host's side and the coming moves (R60; log entries 2, 12, 13). -/
def around (s : State) :
    Params × List HostItem × Option HostJob × Option HostResult × List LogEntry × List Move :=
  (s.par, s.prog, s.job, s.hostResult, s.hostLog, s.agenda)

theorem submit_around (d n : Bool) (a : BusAddr) (l : Byte) (s : State) :
    around (submit d n a l s) = around s := by
  rcases submit_cases d n a l s with ⟨-, e⟩ | ⟨-, e⟩ <;> rw [e] <;> rfl

theorem primLaunch_around (d ns : Bool) (n l : Byte) (m : Memory) (q : SeqPoint) (s : State) :
    around (primLaunch d ns n l m q s) = around s := by
  rcases primLaunch_cases d ns n l m q s with ⟨-, -, e⟩ | ⟨-, -, e⟩ | ⟨-, e⟩ <;> rw [e] <;> rfl

/-- No command touches what stands around the block. -/
theorem exec_around {i : Instr} {s t : State} (h : exec i s = .next t) : around t = around s := by
  cases i with
  | init scl sda f =>
    cases h
    split
    · rfl
    · split <;> rfl
  | frst => cases h; rfl
  | submitW a n => cases h; exact submit_around false false a n s
  | submitWN a n => cases h; exact submit_around false true a n s
  | submitR a n => cases h; exact submit_around true false a n s
  | submitRN a n => cases h; exact submit_around true true a n s
  | wait b => cases h; split <;> rfl
  | wreg r v => cases h; exact primLaunch_around ..
  | wblk r n => cases h; exact primLaunch_around ..
  | rblk r n => cases h; exact primLaunch_around ..
  | stb i b => cases h; split <;> rfl
  | ldb i => cases h; split <;> rfl
  | stmo b => cases h; rfl
  | rdst sel => cases h; split <;> rfl

theorem exec_job {i : Instr} {s t : State} (h : exec i s = .next t) : t.job = s.job := by
  have same := exec_around h
  simp only [around, Prod.mk.injEq] at same
  obtain ⟨-, -, hjob, -⟩ := same
  exact hjob

/-! ### The host's turn -/

theorem takeWord_of_decode {w : Word} {i : Instr} (s : State) (h : decode w = .ok i) : takeWord w s = exec i s := by
  rw [takeWord, h]

theorem takeWord_encode (i : Instr) (s : State) : takeWord (encode i) s = exec i s :=
  takeWord_of_decode s (decode_encode i)

theorem presentNext_of_job {s : State} {j : HostJob} (h : s.job = some j) : presentNext s = exec (jobInstr s.par j) s := by
  simp only [presentNext, nextWord, h, takeWord_encode]

theorem presentNext_of_word {s : State} {w : Word} {rest : List HostItem} (hj : s.job = none) (hp : s.prog = .word w :: rest) :
    presentNext s = takeWord w { s with prog := rest } := by
  simp only [presentNext, nextWord, hj, hp]

theorem presentNext_of_call {s : State} {c : Pseudo} {rest : List HostItem} (hj : s.job = none) (hp : s.prog = .call c :: rest) :
    presentNext s = exec (jobInstr s.par (jobOf c)) (beginJob c rest s) := by
  simp only [presentNext, nextWord, hj, hp, takeWord_encode]

theorem hostStep_of_unlocked {s : State} (h : s.lock = false) : hostStep s = presentNext s := by
  simp [hostStep, cmdReady, h]

/-! ### One step -/

theorem step_of_agenda {s : State} {m : Move} {later : List Move} (h : s.agenda = m :: later) :
    step s = chain (perform m { s with agenda := later, rsp := none }) fun t => .next (hostReceive t) := by
  simp only [step, advance, takeMove, h, clearPort]

/-- The host's turn at an open port, when what it presents is the command `i` in state `u`. -/
theorem step_of_host {s u : State} {i : Instr} {later : List Move} (ha : s.agenda = .host :: later) (hl : s.lock = false)
    (hp : presentNext { s with agenda := later, rsp := none } = exec i u) :
    ∃ t, exec i u = .next t ∧ step s = .next (hostReceive t) := by
  obtain ⟨t, ht⟩ := exec_next i u
  have turn := calc
    perform .host { s with agenda := later, rsp := none }
    _ = presentNext { s with agenda := later, rsp := none } := hostStep_of_unlocked hl
    _ = .next t := hp.trans ht
  exact ⟨t, ht, by rw [step_of_agenda ha, turn, chain_next]⟩

/-- The host's turn at an open port, outside a pseudo-command: the word that is next in the program. -/
theorem step_of_word {s : State} {w : Word} {i : Instr} {items : List HostItem} {later : List Move}
    (ha : s.agenda = .host :: later) (hp : s.prog = .word w :: items) (hj : s.job = none) (hl : s.lock = false)
    (hd : decode w = .ok i) :
    ∃ t, exec i { s with agenda := later, prog := items, rsp := none } = .next t ∧ step s = .next t := by
  have presents := calc
    presentNext { s with agenda := later, rsp := none }
    _ = takeWord w { s with agenda := later, prog := items, rsp := none } := presentNext_of_word hj hp
    _ = exec i { s with agenda := later, prog := items, rsp := none } := takeWord_of_decode _ hd
  obtain ⟨t, ht, hs⟩ := step_of_host ha hl presents
  exact ⟨t, ht, by rw [hs, hostReceive_of_no_job ((exec_job ht).trans hj)]⟩

theorem decode_tableWord {nbits w : Nat} {i : Instr} (h : decodeTableWord nbits w = some i) : decode (tableWord nbits w) = .ok i := by
  unfold decodeTableWord at h
  split at h
  · cases h; assumption
  · cases h

/-- Settles O4: each way a command comes to the port presents it in the state the statement names. -/
theorem aStepRunsTheDecodedCommand : Obligations.AStepRunsTheDecodedCommand := by
  refine ⟨?_, ?_, ?_, ?_, ?_⟩
  · intro s m later ha t ht
    rw [step_of_agenda ha, ht, chain_next]
  · intro s w i items later ha hp hj hl hd
    exact step_of_word ha hp hj hl hd
  · intro s j later ha hj hl
    exact step_of_host ha hl (presentNext_of_job hj)
  · intro s c j i items later hc ha hp hj hl
    have begins := step_of_host ha hl (presentNext_of_call hj hp)
    rcases hc with hc | ⟨scl, sda, f, hc⟩ <;> cases hc <;> exact begins
  · intro s nbits w i hd
    exact step_of_word (s := s.withFetchWord nbits w) rfl rfl rfl rfl (decode_tableWord hd)

/-! ### Agents that are not enabled -/

theorem hostStep_of_locked {s : State} (h : s.lock = true) : hostStep s = .next s := by
  simp [hostStep, cmdReady, h]

theorem seqAgentStep_of_unlocked {s : State} (h : s.lock = false) : seqAgentStep s = .next s := by
  simp [seqAgentStep, h]

theorem feStep_of_resting {s : State} (h : s.fes = .idle ∨ s.fes = .held) (sclT sdaT : Bool) : feStep sclT sdaT s = .next s := by
  rcases h with h | h <;> simp [feStep, h]

theorem moverStep_of_empty {s : State} (h : s.rxv = false) : moverStep s = .next s := by
  simp [moverStep, h]

theorem cbStep_of_not_enabled {s : State} (h : cbEnabled s = false) : cbStep s = s := by
  simp [cbStep, h]

/-- Settles O42, agent by agent. -/
theorem agentsNotEnabledChangeNothing : Obligations.AgentsNotEnabledChangeNothing := by
  intro s
  refine ⟨fun hl => ⟨hostStep_of_locked hl, by simp [cmdReady, hl]⟩, fun hl => ⟨seqAgentStep_of_unlocked hl, by simp [cmdReady, hl]⟩,
    fun hf => ⟨?_, feStep_of_resting hf⟩, moverStep_of_empty, fun hc => ?_⟩
  · rcases hf with hf | hf <;> simp [feEnabled, hf]
  · have off : cbEnabled s = false := by rcases hc with hc | hc | hc <;> simp [cbEnabled, hc]
    exact ⟨off, congrArg _ (cbStep_of_not_enabled off)⟩

end Sys2Proof.Machine
end

section
/-! The block at reset (spec/10_state.md R64). -/

namespace Sys2Proof.Machine

theorem resetOf_inv (p : Params) : Inv (State.resetOf p) := by
  refine ⟨?_, ?_, ?_, ?_, ?_, trivial⟩
  · constructor <;> simp [State.resetOf]
  · constructor <;> simp [State.resetOf]
  · constructor <;> simp [State.resetOf, inFlight]
  · constructor <;> simp [State.resetOf, primWaits]
  · constructor <;> simp [State.resetOf]

theorem boot_inv (p : Params) (prog : List HostItem) (agenda : List Move) (draws : Nat) : Inv (boot p prog agenda draws) :=
  surroundings_inv (resetOf_inv p) none prog none [] agenda draws

theorem resetBlock_inv (s : State) : Inv (resetBlock s) :=
  surroundings_inv (resetOf_inv s.par) none s.prog s.hostResult s.hostLog s.agenda s.draws

/-- Settles O43: nothing is on at reset, so every part of the invariant holds for want of a case. -/
theorem resetMeetsTheInvariant : Obligations.ResetMeetsTheInvariant :=
  ⟨resetOf_inv Config.params, boot_inv⟩

/-- Settles O2: the table by definition, and each agent but the host is not enabled at reset. -/
theorem resetLeavesTheStatedValues : Obligations.ResetLeavesTheStatedValues := by
  rintro p prog agenda draws s rfl
  have engineRests := feStep_of_resting (s := boot p prog agenda draws) (.inl rfl)
  repeat refine ⟨rfl, ?_⟩
  refine ⟨fun _ => rfl, fun _ => rfl, ?_⟩
  simp only [List.forall_mem_cons]
  exact ⟨seqAgentStep_of_unlocked rfl, moverStep_of_empty rfl, congrArg _ (cbStep_of_not_enabled rfl), engineRests false false,
    engineRests false true, engineRests true false, engineRests true true, by simp⟩

end Sys2Proof.Machine
end

section
/-! The readable registers as sums of their fields (spec/10_state.md R56 to R59). -/

namespace Sys2Proof.Machine

@[simp] theorem bit_toNat (b : Bool) : (bit b).toNat = b.toNat := by cases b <;> rfl

theorem statusReg_toNat (s : State) : (statusReg s).toNat = s.lc.bits.toNat + 4 * s.en.toNat + 8 * s.ien.toNat + 16 * s.hreg.toNat
    + 32 * s.armed.toNat + 64 * s.busy.toNat + 128 * s.cflag.toNat + 256 * s.claimed.toNat + 512 * s.rxv.toNat
    + 1024 * (irq s).toNat + 2048 * s.evtp.bits.toNat + 16384 * s.fes.bits.toNat := by
  simp only [statusReg, toNat_append_eq_add, bit_toNat, BitVec.ofNat_eq_ofNat, BitVec.toNat_ofNat]
  omega

theorem lastReg_toNat (s : State) : (lastReg s).toNat = s.res.bits.toNat + 16 * s.rej.bits.toNat := by
  simp only [lastReg, toNat_append_eq_add, BitVec.ofNat_eq_ofNat, BitVec.toNat_ofNat]
  omega

theorem eventReg_toNat (s : State) : (eventReg s).toNat = s.evt.bits.toNat := by
  simp only [eventReg, toNat_append_eq_add, BitVec.ofNat_eq_ofNat, BitVec.toNat_ofNat]
  omega

theorem configReg_toNat (s : State) : (configReg s).toNat = s.sdapin.toNat + 256 * s.sclpin.toNat + 65536 * s.freq.toNat := by
  simp only [configReg, toNat_append_eq_add, BitVec.ofNat_eq_ofNat, BitVec.toNat_ofNat]
  omega

theorem irq_toNat (s : State) : (irq s).toNat = if s.evtp ≠ .none ∧ s.ien = true then 1 else 0 := by
  rw [irq]
  cases s.evtp <;> cases s.ien <;> rfl

/-- The response word of a read that succeeded: the data above eight zero bits. -/
theorem responseWord_data (d : Imm24) : responseWord .success .none d = d.zeroExtend 32 <<< 8 := by
  apply BitVec.eq_of_toNat_eq
  simp only [responseWord, Code.bits, Rej.bits, toNat_append_eq_add, BitVec.ofNat_eq_ofNat, BitVec.toNat_ofNat,
    BitVec.toNat_shiftLeft, BitVec.toNat_setWidth, Nat.shiftLeft_eq]
  omega

theorem exec_rdst_of_selected {sel : Byte} {s : State} {v : Imm24} (h : selected sel s = some v) :
    exec (.rdst sel) s = .next { s with rsp := some (v.zeroExtend 32 <<< 8) } := by
  rw [exec, execRdst, h, ← responseWord_data]
  rfl

/-- Settles O30: each register's number is the sum of its fields' numbers, each field's number is its code, and `RDST` returns the register. -/
theorem readableRegistersHaveTheStatedLayout : Obligations.ReadableRegistersHaveTheStatedLayout := by
  intro s
  refine ⟨?_, ?_, ?_, configReg_toNat s, ?_⟩
  · rw [statusReg_toNat, irq_toNat]
    congr 1
    · congr 1
      · congr 10
        cases s.lc <;> rfl
      · cases s.evtp <;> rfl
    · cases s.fes <;> rfl
  · rw [lastReg_toNat]
    cases s.res <;> cases s.rej <;> rfl
  · rw [eventReg_toNat]
    cases s.evt <;> rfl
  · simp only [List.forall_mem_cons]
    exact ⟨exec_rdst_of_selected rfl, exec_rdst_of_selected rfl, exec_rdst_of_selected rfl, exec_rdst_of_selected rfl, by simp⟩

end Sys2Proof.Machine
end

section
/-! Commands, the host's side and the sequencer keep the invariant (spec/10_state.md R36, R40, R52; spec/46_host_sequences.md R275;
spec/44_transaction_primitives.md R231 to R243). -/

namespace Sys2Proof.Machine

/-! ### The lifecycle -/

theorem not_busy_before_ready {s : State} (h : Inv s) (hlc : s.lc ≠ .ready) : s.busy = false := by
  by_contra hb
  exact hlc (h.arbiter.busy_ready (by simpa using hb))

/-- Before `Ready` no frame and no primitive looks at the lifecycle and the configuration, so they may change (R35, R291). -/
theorem reconfigured_inv {s : State} (h : Inv s) (hl : s.lock = false) (hlc : s.lc ≠ .ready) {lc : Lifecycle} {scl sda : Byte}
    {f : FreqCode} {hreg ien en : Bool}
    (ok : LifecycleOk { s with sclpin := scl, sdapin := sda, freq := f, hreg := hreg, ien := ien, en := en, lc := lc }) :
    Inv { s with sclpin := scl, sdapin := sda, freq := f, hreg := hreg, ien := ien, en := en, lc := lc } := by
  have idle := not_busy_before_ready h hlc
  have rests := (h.lifecycle.quiet_before_ready hlc).1
  have seqIdle := seq_idle_of_unlocked h hl
  exact ⟨ok, { h.arbiter with busy_ready := by simp [idle] }, { h.frame with phase_count := by simp [rests] },
    { h.sequencer with prim_ready := by simp [primWaits, seqIdle] }, { h.buffers with }, h.job⟩

theorem execInit_inv {scl sda : Byte} {f : FreqCode} {s t : State} (h : Inv s) (hl : s.lock = false)
    (ht : exec (.init scl sda f) s = .next t) : Inv t := by
  cases ht
  split
  · exact answer_inv h
  · next uninit =>
    have hlc : s.lc ≠ .ready := by simp_all
    split
    · exact answer_inv (reconfigured_inv h hl hlc ⟨by simp, rfl, rfl, by simp⟩)
    · have disabled : s.en = false := by simpa using mt h.lifecycle.ready_iff_enabled.2 hlc
      exact answer_inv (reconfigured_inv h hl hlc ⟨by simp [disabled], h.lifecycle.interrupt_with_enable,
        h.lifecycle.handler_with_enable, fun _ => h.lifecycle.quiet_before_ready hlc⟩)

/-! ### The commands -/

/-- The counter runs, a nonzero budget having been loaded: the port closes for a `WAIT` (R212). -/
theorem waitStart_inv {s : State} {b : Imm24} (h : Inv s) (hb : b ≠ 0) : Inv { s with tcnt := b, lock := true, seq := .waitW } := by
  refine ⟨{ h.lifecycle with }, { h.arbiter with }, { h.frame with }, ?_, { h.buffers with }, h.job⟩
  constructor <;> simp_all [primWaits]

/-- With the sequencer idle nothing depends on the counter, the budget and the read length (R42, R43, R52). -/
theorem countersSet_inv {s : State} (h : Inv s) (hl : s.lock = false) (tcnt tbudget : Imm24) (rlen : Byte) :
    Inv { s with tcnt := tcnt, tbudget := tbudget, rlen := rlen } := by
  have seqIdle := seq_idle_of_unlocked h hl
  exact ⟨{ h.lifecycle with }, { h.arbiter with }, { h.frame with },
    { h.sequencer with counting := by simp [primWaits, seqIdle], prim_ready := by simp [primWaits, seqIdle], rlen_fits := by simp [seqIdle] },
    { h.buffers with }, h.job⟩

theorem txbStored_inv {s : State} {i : Nat} (h : Inv s) (hi : i < s.par.txCap) (b : Byte) :
    Inv { s with txb := Memory.put s.txb i b } :=
  ⟨{ h.lifecycle with }, { h.arbiter with }, { h.frame with }, { h.sequencer with },
    { h.buffers with txb_wf := Memory.put_wf i b h.buffers.txb_wf, txb_within := Memory.put_within b h.buffers.txb_within hi }, h.job⟩

theorem one_lt_txCap (p : Params) : 1 < p.txCap := by
  unfold Params.txCap
  omega

/-- The bytes a primitive puts on the wire fit `TXB`: the register byte, and as many data bytes as passed the check (R231, R232). -/
theorem stagedLength_fits {s : State} {len : Byte} (h : primCheck len s = .none) : 0 < (len + 1).toNat ∧ (len + 1).toNat ≤ s.par.txCap := by
  obtain ⟨-, -, -, hcap⟩ := primCheck_none.1 h
  have := s.par.dataCap_bounds
  have : s.par.txCap = s.par.dataCap + 1 := rfl
  rw [BitVec.toNat_add]
  simp only [BitVec.ofNat_eq_ofNat, BitVec.toNat_ofNat]
  omega

/-- Every command keeps the invariant. -/
theorem exec_inv {i : Instr} {s t : State} (h : Inv s) (hl : s.lock = false) (ht : exec i s = .next t) : Inv t := by
  have seqIdle := seq_idle_of_unlocked h hl
  have staged (reg : Byte) := txbStored_inv h (Nat.zero_lt_of_lt (one_lt_txCap s.par)) reg
  cases i with
  | init scl sda f => exact execInit_inv h hl ht
  | frst => cases ht; exact answer_inv (flagReset_inv h (by simp [primWaits, seqIdle]))
  | submitW a n => cases ht; exact submit_inv h hl
  | submitWN a n => cases ht; exact submit_inv h hl
  | submitR a n => cases ht; exact submit_inv h hl
  | submitRN a n => cases ht; exact submit_inv h hl
  | wait b =>
    cases ht
    split
    · exact answer_inv (countersSet_inv h hl b s.tbudget s.rlen)
    · exact waitStart_inv h ‹_›
  | wreg r v =>
    cases ht
    have both := (txbStored_inv (staged r) (one_lt_txCap s.par) v).buffers
    exact primLaunch_inv h seqIdle both.txb_wf both.txb_within (.inl rfl) fun _ => ⟨by decide, one_lt_txCap s.par⟩
  | wblk r n =>
    cases ht
    exact primLaunch_inv h seqIdle (staged r).buffers.txb_wf (staged r).buffers.txb_within (.inl rfl) stagedLength_fits
  | rblk r n =>
    cases ht
    exact primLaunch_inv (countersSet_inv h hl s.tcnt s.tbudget n) seqIdle (staged r).buffers.txb_wf (staged r).buffers.txb_within
      (.inr ⟨rfl, rfl, rfl⟩) fun _ => ⟨by decide, (one_lt_txCap s.par).le⟩
  | stb i b =>
    cases ht
    split
    · next allowed =>
      simp only [storeAllowed, Bool.and_eq_true, decide_eq_true_eq] at allowed
      exact answer_inv (txbStored_inv h allowed.1 b)
    · exact raiseIllegal_inv h
  | ldb i =>
    cases ht
    split
    · exact answer_inv (surroundings_inv h _ _ _ _ _ _)
    · exact raiseIllegal_inv h
  | stmo b => cases ht; exact answer_inv (countersSet_inv h hl s.tcnt b s.rlen)
  | rdst sel =>
    cases ht
    split
    · exact answerOnly_inv h
    · exact raiseIllegal_inv h

theorem takeWord_inv {w : Word} {s t : State} (h : Inv s) (hl : s.lock = false) (ht : takeWord w s = .next t) : Inv t := by
  unfold takeWord at ht
  split at ht
  · exact exec_inv h hl ht
  · cases ht
    exact raiseIllegal_inv h

/-! ### The host's side -/

theorem job_inv {s : State} {j : Option HostJob} (h : Inv s) (hj : jobOk { s with job := j }) : Inv { s with job := j } :=
  ⟨{ h.lifecycle with }, { h.arbiter with }, { h.frame with }, { h.sequencer with }, { h.buffers with }, hj⟩

theorem jobDone_inv {s : State} (h : Inv s) (v : HostResult) : Inv (jobDone v s) :=
  surroundings_inv (job_inv (j := none) h trivial) s.rsp s.prog (some v) s.hostLog s.agenda s.draws

theorem beginJob_inv {s : State} (h : Inv s) (c : Pseudo) (rest : List HostItem) : Inv (beginJob c rest s) :=
  surroundings_inv (job_inv (j := some (jobOf c)) h (by cases c <;> trivial)) s.rsp rest none s.hostLog s.agenda s.draws

theorem logFailure_inv {s : State} (h : Inv s) (op : HostOp) (r : Word) : Inv (logFailure op r s) := by
  obtain ⟨log, same⟩ := logFailure_same op r s
  rw [same]
  exact surroundings_inv h s.rsp s.prog s.hostResult log s.agenda s.draws

/-- The state in which the host presents a word: only its own side has moved on (R60, R275). -/
theorem nextWord_inv {w : Word} {s u : State} (h : Inv s) (hw : nextWord s = some (w, u)) : Inv u ∧ u.lock = s.lock := by
  unfold nextWord at hw
  split at hw
  · cases hw
    exact ⟨h, rfl⟩
  · split at hw
    · cases hw
    · cases hw
      exact ⟨surroundings_inv h s.rsp _ s.hostResult s.hostLog s.agenda s.draws, rfl⟩
    · cases hw
      exact ⟨beginJob_inv h _ _, rfl⟩

theorem presentNext_inv {s t : State} (h : Inv s) (hl : s.lock = false) (ht : presentNext s = .next t) : Inv t := by
  unfold presentNext at ht
  split at ht
  · next w u hw =>
    obtain ⟨hu, hlock⟩ := nextWord_inv h hw
    exact takeWord_inv hu (hlock.trans hl) ht
  · cases ht
    exact h

theorem initSensorReceive_inv {s : State} (h : Inv s) (pt : InitPoint) (scl sda : Byte) (f : FreqCode) (r : Word) :
    Inv (initSensorReceive pt scl sda f r s) := by
  cases pt with
  | init =>
    simp only [initSensorReceive]
    split
    · exact job_inv h trivial
    · exact jobDone_inv (logFailure_inv h _ r) _
  | resetCommand => exact job_inv (logFailure_inv h _ r) trivial
  | powerManagement => exact job_inv (logFailure_inv h _ r) (Params.cfgLen_bounds _).1
  | store i =>
    simp only [initSensorReceive]
    split
    · next more => exact job_inv h more
    · exact job_inv h trivial
  | configBlock => exact jobDone_inv (logFailure_inv h _ r) _

/-- A sample is six bytes, no other number of them (R283). -/
theorem axisSample_none {got : List Byte} (h : axisSample got = none) : got.length ≠ 6 := by
  intro six
  match got, six with
  | [_, _, _, _, _, _], _ => cases h

theorem jobReceive_inv {s : State} {j : HostJob} (h : Inv s) (hj : s.job = some j) (r : Word) : Inv (jobReceive j r s) := by
  cases j with
  | initSensor pt scl sda f => exact initSensorReceive_inv h pt scl sda f r
  | readBlock =>
    simp only [jobReceive]
    split
    · exact job_inv h (Nat.zero_lt_succ 5)
    · exact jobDone_inv h _
  | loadBytes got =>
    have room := h.job
    simp only [jobOk, hj] at room
    simp only [jobReceive, bytesReceive]
    split
    · exact jobDone_inv h _
    · next incomplete =>
      refine job_inv h ?_
      have := axisSample_none incomplete
      simp only [jobOk, List.length_append, List.length_singleton] at this ⊢
      omega

theorem hostReceive_inv {s : State} (h : Inv s) : Inv (hostReceive s) := by
  unfold hostReceive
  split
  · next r j _ hj => exact jobReceive_inv h hj r
  · exact h

/-! ### The sequencer -/

theorem delivered_of_done {s : State} (h : Inv s) (hr : waitResult s = .done) : s.busy = false ∧ s.evt ≠ .none :=
  h.arbiter.flag_delivered (waitResult_done hr)

theorem classify_success {e : Ev} (h : classify e = some .success) : e = .done := by
  cases e <;> simp_all [classify]

/-- What a `seq_step` can do (R52, R212, R213, R233, R241 to R243). -/
inductive SeqOutcome (s : State) : State → Prop where
  | idle : SeqOutcome s s
  | tick (going : waitResult s = .continue_) : SeqOutcome s (waitTick s)
  | finish (c : Code) : SeqOutcome s (finish c (waitTick s))
  | finishWait (c : Code) : SeqOutcome s (finishWait c (waitTick s))
  | phaseOneDone (point : s.seq = .rb1W) (ended : waitResult s = .done) (clean : s.evt = .done) :
      SeqOutcome s { waitTick s with seq := .rb2L }
  | phaseTwoLaunch (point : s.seq = .rb2L) : SeqOutcome s (readPhaseTwoLaunch s)

theorem waitStep_outcome (s : State) : SeqOutcome s (waitStep s) := by
  unfold waitStep
  split
  · exact .tick ‹_›
  · exact .finishWait .success
  · exact .finishWait .timeout

theorem finishClassified_outcome {s t : State} (ht : finishClassified (waitTick s) = .next t) : SeqOutcome s t := by
  unfold finishClassified at ht
  split at ht <;> cases ht
  exact .finish _

theorem primWaitStep_outcome {s t : State} (ht : primWaitStep s = .next t) : SeqOutcome s t := by
  unfold primWaitStep at ht
  split at ht
  · cases ht; exact .tick ‹_›
  · cases ht; exact .finish .timeout
  · exact finishClassified_outcome ht

theorem readPhaseOneStep_outcome {s t : State} (hq : s.seq = .rb1W) (ht : readPhaseOneStep s = .next t) : SeqOutcome s t := by
  unfold readPhaseOneStep at ht
  split at ht
  · cases ht; exact .tick ‹_›
  · cases ht; exact .finish .timeout
  · next ended =>
    split at ht
    · next clean => cases ht; exact .phaseOneDone hq ended (classify_success clean)
    · exact finishClassified_outcome ht

theorem seqStep_outcome {s t : State} (ht : seqStep s = .next t) : SeqOutcome s t := by
  cases hq : s.seq <;> simp only [seqStep, hq] at ht
  case idle => cases ht; exact .idle
  case waitW => cases ht; exact waitStep_outcome s
  case primW | rb2W => exact primWaitStep_outcome ht
  case rb1W => exact readPhaseOneStep_outcome hq ht
  case rb2L => cases ht; exact .phaseTwoLaunch hq

/-- The launch of phase two, in its two cases (R242). -/
theorem readPhaseTwoLaunch_cases (s : State) :
    (s.lc = .ready ∧ s.busy = false ∧ readPhaseTwoLaunch s =
      { launch true false s.par.targetAddr s.rlen (flagReset s) with tcnt := s.tbudget, seq := .rb2W }) ∨
    ∃ cause, readPhaseTwoLaunch s = answer .submissionRejected cause 0 { flagReset s with lock := false, seq := .idle } := by
  unfold readPhaseTwoLaunch
  split
  · next accepted =>
    obtain ⟨ready, idle, -⟩ := submitCheck_none.1 accepted
    exact .inl ⟨ready, idle, rfl⟩
  · exact .inr ⟨_, rfl⟩

/-- The end of phase one with `Done` leaves the bus held for phase two (R241, R248). -/
theorem phaseOneDone_inv {s : State} (h : Inv s) (hq : s.seq = .rb1W) (hr : waitResult s = .done) (he : s.evt = .done) :
    Inv { waitTick s with seq := .rb2L } := by
  have idle := (delivered_of_done h hr).1
  have held := h.sequencer.phase_one_held hq idle he
  have ready := h.sequencer.prim_ready (.inl (.inr (.inl hq)))
  have fits := h.sequencer.rlen_fits (.inl hq)
  have locked := h.sequencer.lock_iff.2 (by simp [hq])
  refine ⟨{ h.lifecycle with }, { h.arbiter with }, { h.frame with }, ?_, { h.buffers with }, h.job⟩
  constructor <;> simp_all [primWaits]

theorem readPhaseTwoLaunch_inv {s : State} (h : Inv s) (hq : s.seq = .rb2L) : Inv (readPhaseTwoLaunch s) := by
  have cleared := flagReset_inv h (by simp [primWaits, hq])
  obtain ⟨-, budget⟩ := h.sequencer.prim_ready (.inr hq)
  have fits := h.sequencer.rlen_fits (.inr (.inl hq))
  have locked := h.sequencer.lock_iff.2 (by simp [hq])
  rcases readPhaseTwoLaunch_cases s with ⟨ready, idle, launched⟩ | ⟨cause, rejected⟩
  · rw [launched]
    obtain ⟨arbiter, frame⟩ := launch_parts (a := s.par.targetAddr) (len := s.rlen) (dir := true) (ns := false) cleared ready idle rfl
      fits (fun _ => rfl)
    refine ⟨{ h.lifecycle with quiet_before_ready := fun hl => absurd ready hl }, { arbiter with }, { frame with }, ?_,
      { h.buffers with }, h.job⟩
    constructor <;> simp_all [primWaits]
  · rw [rejected]
    exact answer_inv ⟨{ cleared.lifecycle with }, { cleared.arbiter with }, { cleared.frame with }, sequencer_idle_ok _,
      { cleared.buffers with }, cleared.job⟩

/-- The end of a wait keeps the invariant, whatever the counter has come to. -/
theorem finish_waitTick_inv {s : State} (h : Inv s) (c : Code) : Inv (finish c (waitTick s)) :=
  answer_inv ⟨{ h.lifecycle with }, { h.arbiter with }, { h.frame with }, sequencer_idle_ok _, { h.buffers with }, h.job⟩

theorem finishWait_waitTick_inv {s : State} (h : Inv s) (c : Code) : Inv (finishWait c (waitTick s)) :=
  answer_inv ⟨{ h.lifecycle with }, { h.arbiter with }, { h.frame with }, sequencer_idle_ok _, { h.buffers with }, h.job⟩

theorem seqStep_inv {s t : State} (h : Inv s) (ht : seqStep s = .next t) : Inv t := by
  cases seqStep_outcome ht with
  | idle => exact h
  | tick going => exact waitTick_inv h going
  | finish c => exact finish_waitTick_inv h c
  | finishWait c => exact finishWait_waitTick_inv h c
  | phaseOneDone point ended clean => exact phaseOneDone_inv h point ended clean
  | phaseTwoLaunch point => exact readPhaseTwoLaunch_inv h point

end Sys2Proof.Machine
end

section
/-! What the engine writes, and what it keeps of the invariant in a phase and at the start of a symbol (spec/42_wire_protocol.md R172, R173;
spec/41_bus_transport.md R150). -/

namespace Sys2Proof.Machine

/-! ### What the engine writes -/

/-- `s` with the registers the engine writes taken from `t` (R50, R51, R53 to R55, R62), and the draw counter. -/
def withEngineOf (t s : State) : State :=
  { s with idx := t.idx, bitc := t.bitc, shift := t.shift, errc := t.errc, samp := t.samp, fes := t.fes, claimed := t.claimed,
           sym := t.sym, phi := t.phi, rxd := t.rxd, rxv := t.rxv, sclO := t.sclO, sdaO := t.sdaO, qcnt := t.qcnt, evtp := t.evtp,
           draws := t.draws }

theorem withEngineOf_trans {s u t : State} (hu : u = withEngineOf u s) (ht : t = withEngineOf t u) : t = withEngineOf t s := by
  have := congrArg (withEngineOf t) hu
  exact ht.trans this

theorem outstanding_of_inFlight {s : State} (h : Inv s) (flying : inFlight s) : s.busy = true ∧ s.evtp = .none := by
  refine ⟨?_, ?_⟩
  · by_contra hb
    have := (h.arbiter.idle_quiet (by simpa using hb)).1
    rcases flying with hf | hf <;> simp [hf] at this
  · by_contra he
    have := (h.arbiter.pending_over he).2.1
    rcases flying with hf | hf <;> simp [hf] at this

/-- While a frame is outstanding, the rest of the invariant does not depend on what the engine writes. -/
theorem withEngineOf_inv {s t : State} (h : Inv s) (outstanding : s.busy = true)
    (pending : (t.evtp = .none ∧ inFlight t) ∨ (t.evtp ≠ .none ∧ (t.fes = .idle ∨ t.fes = .held) ∧ t.rxv = false))
    (frame : FrameOk (withEngineOf t s)) : Inv (withEngineOf t s) := by
  have ready := h.arbiter.busy_ready outstanding
  have unarmed : s.armed = false := by
    by_contra armed
    simpa [outstanding] using (h.arbiter.armed_quiet (by simpa using armed)).1
  have unflagged : s.cflag = false := by
    by_contra flag
    simpa [outstanding] using (h.arbiter.flag_delivered (by simpa using flag)).1
  have waiting : s.seq ≠ .rb2L := fun hq => by simpa [outstanding] using (h.sequencer.phase_two_ready hq).1
  refine ⟨{ h.lifecycle with quiet_before_ready := fun hl => absurd ready hl }, ?_, frame,
    { h.sequencer with
      phase_one_held := fun _ idle => absurd (outstanding.symm.trans idle) (by simp)
      phase_two_ready := fun hq => absurd hq waiting }, { h.buffers with }, h.job⟩
  rcases pending with ⟨he, hf⟩ | ⟨he, hf, hr⟩ <;> constructor <;> simp_all [withEngineOf]

/-! ### The lines of the phase in progress -/

/-- Once the lines of the phase in progress are out, they are the lines the invariant asks for (R173, R180). -/
theorem linesBefore_of_out {s : State} (out : currentLines s = some (s.sclO, s.sdaO)) : linesBefore s := by
  unfold currentLines at out
  unfold linesBefore
  split
  · next start =>
    rw [start] at out
    cases hy : s.sym <;> simp_all [phaseLines]
  · exact .inl out.symm

/-- At the start of a symbol other than `S` and `Sr` the invariant asks for SCL low (R173). -/
theorem linesBefore_of_low {s : State} (start : s.phi = 0) (hy : s.sym ≠ .s ∧ s.sym ≠ .sr) (low : s.sclO = false) : linesBefore s := by
  cases hs : s.sym <;> simp_all [linesBefore]

/-- Driving the lines of the phase in progress keeps the invariant (R172). -/
theorem drive_inv {s : State} {l : Bool × Bool} (h : Inv s) (run : s.fes = .run) (hl : currentLines s = some l) : Inv (drive l s) := by
  obtain ⟨outstanding, quiet⟩ := outstanding_of_inFlight h (.inl run)
  exact withEngineOf_inv (t := drive l s) h outstanding (.inl ⟨quiet, .inl run⟩)
    { h.frame with
      held_claimed := fun held => absurd (run.symm.trans held) (by simp)
      released_unclaimed := fun rests => absurd rests (by simp [withEngineOf, run])
      lines_before := fun _ => linesBefore_of_out (s := drive l s) hl }

theorem presentPhase_inv {s : State} (h : Inv s) : Inv (presentPhase s) := by
  unfold presentPhase
  split
  · next run =>
    split
    · next lines hl => exact drive_inv h run hl
    · exact h
  · exact h

/-- The sample and the load of the phase counter keep the invariant (R177, R362). -/
theorem sampled_inv {s : State} (h : Inv s) (sdaI : Bool) : Inv { sample sdaI s with qcnt := phaseCycles s } := by
  obtain ⟨b, same⟩ := sample_same sdaI s
  have loaded : 1 ≤ phaseCycles s := by simp [phaseCycles, Params.div]
  rw [same]
  exact ⟨{ h.lifecycle with }, { h.arbiter with }, { h.frame with phase_count := fun _ => ⟨loaded, le_rfl⟩ }, { h.sequencer with },
    { h.buffers with }, h.job⟩

/-! ### The next phase and the next symbol -/

theorem phases_pos (y : Sym) : 0 < y.phases := by cases y <;> decide

/-- After a phase that is not its symbol's last, the symbol has one more (R173). -/
theorem phase_succ {s : State} (h : s.phi.val < s.sym.phases) (more : isLastPhase s = false) :
    (s.phi + 1).val = s.phi.val + 1 ∧ s.phi.val + 1 < s.sym.phases := by
  have four : s.sym.phases ≤ 4 := by cases s.sym <;> decide
  simp only [isLastPhase, beq_eq_false_iff_ne] at more
  have := s.phi.isLt
  rw [Fin.val_add_one_of_lt']
  all_goals omega

theorem nextPhase_inv {s : State} (h : Inv s) (run : s.fes = .run) (out : currentLines s = some (s.sclO, s.sdaO))
    (more : isLastPhase s = false) : Inv { s with phi := s.phi + 1 } := by
  obtain ⟨outstanding, quiet⟩ := outstanding_of_inFlight h (.inl run)
  obtain ⟨succ, lt⟩ := phase_succ (h.frame.phase_exists run) more
  refine withEngineOf_inv (t := { s with phi := s.phi + 1 }) h outstanding (.inl ⟨quiet, .inl run⟩)
    { h.frame with phase_exists := fun _ => succ ▸ lt, lines_before := fun _ => ?_ }
  have later : s.phi + 1 ≠ 0 := fun hz => by simp [hz] at succ
  exact (if_neg later).mpr (.inr (out.symm.trans (congrArg (phaseLines s.sym (sentBit s)) (add_sub_cancel_right s.phi 1).symm)))

/-- What the invariant asks of a running frame at the start of a symbol other than `S` and `Sr`. -/
structure SymbolOk (s : State) : Prop where
  index_fits : s.idx.toNat < s.len.toNat
  write_symbols : s.sym = .txd ∨ s.sym = .ackd ∨ s.sym = .h → s.dir = false
  read_symbols : s.sym = .rxbit ∨ s.sym = .mack → s.dir = true
  hold_only_nostop : s.sym = .h → s.nostop = true
  clean_stop : s.sym = .p → s.errc = .none → s.nostop = false ∧ s.idx.toNat + 1 = s.len.toNat
  error_fits : errorFits s
  write_receives_nothing : s.dir = false → s.rxv = false
  moved_in_order : s.dir = true → s.ridx.toNat + s.rxv.toNat ≤ receivedBound s
  none_lost : s.dir = true → s.errc = .none → s.ridx.toNat + s.rxv.toNat = receivedBound s

/-- The step from one symbol to the next keeps the invariant if the new point of the frame is a good one (R150 to R154). -/
theorem nextSymbol_inv {s : State} {y : Sym} {idx shift rxd : Byte} {bitc : BitVec 3} {errc : Ev} {rxv : Bool} {draws : Nat}
    (h : Inv s) (run : s.fes = .run) (low : s.sclO = false) (hy : y ≠ .s ∧ y ≠ .sr)
    (ok : SymbolOk (toSym y { s with idx := idx, bitc := bitc, shift := shift, errc := errc, rxd := rxd, rxv := rxv, draws := draws })) :
    Inv (toSym y { s with idx := idx, bitc := bitc, shift := shift, errc := errc, rxd := rxd, rxv := rxv, draws := draws }) := by
  obtain ⟨outstanding, quiet⟩ := outstanding_of_inFlight h (.inl run)
  exact withEngineOf_inv (s := s)
    (t := toSym y { s with idx := idx, bitc := bitc, shift := shift, errc := errc, rxd := rxd, rxv := rxv, draws := draws })
    h outstanding (.inl ⟨quiet, .inl run⟩)
    { h.frame with
      index_fits := fun _ => ok.index_fits
      phase_exists := fun _ => phases_pos y
      write_symbols := fun _ => ok.write_symbols
      read_symbols := fun _ => ok.read_symbols
      hold_only_nostop := fun _ => ok.hold_only_nostop
      stop_when_clean := fun _ hp he => (ok.clean_stop hp he).1
      drain_is_read := fun hd => absurd (run.symm.trans hd) (by simp)
      error_fits := fun _ => ok.error_fits
      write_receives_nothing := fun _ => ok.write_receives_nothing
      moved_in_order := fun _ => ok.moved_in_order
      none_lost := fun _ => ok.none_lost
      stop_after_last := fun _ hp he => (ok.clean_stop hp he).2
      drain_after_last := fun hd => absurd (run.symm.trans hd) (by simp)
      start_unclaimed := fun _ hs => absurd hs hy.1
      restart_claimed := fun _ hs => absurd hs hy.2
      lines_before := fun _ => linesBefore_of_low rfl hy low }

end Sys2Proof.Machine
end

section
/-! The engine keeps the invariant, from symbol to symbol, at the end of a frame, and so in every step (spec/41_bus_transport.md R150 to R158,
spec/42_wire_protocol.md R172 to R186). -/

namespace Sys2Proof.Machine

/-! ### From symbol to symbol -/

/-- A symbol's last phase leaves SCL low, but for `P` (R173). -/
theorem scl_low_after {s : State} (out : currentLines s = some (s.sclO, s.sdaO)) (last : isLastPhase s = true) (hy : s.sym ≠ .p) :
    s.sclO = false := by
  unfold currentLines at out
  simp only [isLastPhase, beq_iff_eq] at last
  generalize s.phi = phi at out last
  cases hs : s.sym <;> fin_cases phi <;> simp_all [Sym.phases, phaseLines]

/-- No error stands before the symbols that follow one: STOP, and the ACK slot of a byte that was lost (R151, R152, R154). -/
theorem errc_none {s : State} (h : Inv s) (run : s.fes = .run) (hy : s.sym ≠ .p ∧ s.sym ≠ .mack) : s.errc = .none := by
  have fits := h.frame.error_fits run
  unfold errorFits at fits
  split at fits <;> simp_all

theorem toNat_succ {i : Byte} (h : i.toNat + 1 < 256) : (i + 1).toNat = i.toNat + 1 := by
  rw [BitVec.toNat_add]
  exact Nat.mod_eq_of_lt h

section Symbol

variable {s t : State} (h : Inv s) (run : s.fes = .run)
include h run

/-- No byte has been received up to the end of the address byte (R151). -/
theorem none_received (hy : s.sym = .s ∨ s.sym = .sr ∨ s.sym = .txa ∨ s.sym = .acka) :
    s.errc = .none ∧ (s.dir = true → s.ridx.toNat + s.rxv.toNat = 0) := by
  have clean : s.errc = .none := errc_none h run (by rcases hy with hy | hy | hy | hy <;> simp [hy])
  refine ⟨clean, fun hd => ?_⟩
  have count := h.frame.none_lost (.inl run) hd clean
  rcases hy with hy | hy | hy | hy <;> simpa [receivedBound, run, hy] using count

/-- On through the address byte and its ACK slot (R150, R151). -/
theorem addressPart_inv {y : Sym} {shift : Byte} {bitc : BitVec 3} (low : s.sclO = false)
    (hs : s.sym = .s ∨ s.sym = .sr ∨ s.sym = .txa) (hy : y = .txa ∨ y = .acka) :
    Inv (toSym y { s with shift := shift, bitc := bitc }) := by
  obtain ⟨clean, count⟩ := none_received h run (by tauto)
  have index := h.frame.index_fits (.inl run)
  have quiet := h.frame.write_receives_nothing (outstanding_of_inFlight h (.inl run)).1
  refine nextSymbol_inv h run low (by rcases hy with rfl | rfl <;> simp) ?_
  rcases hy with rfl | rfl <;> constructor <;> simp_all [errorFits, receivedBound]

/-- After an address byte that was refused: STOP with error (R151). -/
theorem addressRefused_inv (low : s.sclO = false) (hs : s.sym = .acka) : Inv (toSym .p { s with errc := .addressNack }) := by
  obtain ⟨clean, count⟩ := none_received h run (by tauto)
  have index := h.frame.index_fits (.inl run)
  have quiet := h.frame.write_receives_nothing (outstanding_of_inFlight h (.inl run)).1
  refine nextSymbol_inv h run low (by simp) ?_
  constructor <;> simp_all [errorFits, receivedBound]

/-- A byte to send, inside the frame of a write, keeps the invariant (R151, R152). -/
theorem loadByte_inv {i : Byte} (low : s.sclO = false) (hd : s.dir = false) (clean : s.errc = .none) (hi : i.toNat < s.len.toNat)
    (ht : loadByte i s = .next t) : Inv t := by
  have outstanding := (outstanding_of_inFlight h (.inl run)).1
  have quiet := h.frame.write_receives_nothing outstanding hd
  have fits : s.len.toNat ≤ s.par.txCap := by simpa [frameCap, hd] using (h.frame.len_fits outstanding).2
  rw [loadByte_next (hi.trans_le fits)] at ht
  cases ht
  refine nextSymbol_inv h run low (by simp) ?_
  constructor <;> simp_all [errorFits]

/-- The first data bit of a read frame (R151). -/
theorem firstBit_inv (low : s.sclO = false) (hs : s.sym = .acka) (hd : s.dir = true) :
    Inv (toSym .rxbit { s with idx := 0, bitc := 7 }) := by
  obtain ⟨clean, count⟩ := none_received h run (by tauto)
  have some := (h.frame.len_fits (outstanding_of_inFlight h (.inl run)).1).1
  refine nextSymbol_inv h run low (by simp) ?_
  constructor <;> simp_all [errorFits, receivedBound]

/-- On through a byte sent in a write frame, up to STOP or hold (R152). -/
theorem writePart_inv {y : Sym} {bitc : BitVec 3} {errc : Ev} (low : s.sclO = false) (hd : s.dir = false)
    (hy : (errc = .none ∧ (y = .txd ∨ y = .ackd)) ∨ (errc = .dataNack ∧ y = .p) ∨
      (errc = .none ∧ s.idx.toNat + 1 = s.len.toNat ∧ ((y = .p ∧ s.nostop = false) ∨ (y = .h ∧ s.nostop = true)))) :
    Inv (toSym y { s with bitc := bitc, errc := errc }) := by
  have index := h.frame.index_fits (.inl run)
  have quiet := h.frame.write_receives_nothing (outstanding_of_inFlight h (.inl run)).1 hd
  refine nextSymbol_inv h run low (by rcases hy with ⟨-, rfl | rfl⟩ | ⟨-, rfl⟩ | ⟨-, -, ⟨rfl, -⟩ | ⟨rfl, -⟩⟩ <;> simp) ?_
  rcases hy with ⟨rfl, rfl | rfl⟩ | ⟨rfl, rfl⟩ | ⟨rfl, final, ⟨rfl, stop⟩ | ⟨rfl, hold⟩⟩ <;> constructor <;> simp_all [errorFits]

/-- On through the bits of a byte received (R153). -/
theorem nextBit_inv {shift : Byte} {bitc : BitVec 3} (low : s.sclO = false) (hs : s.sym = .rxbit) :
    Inv (toSym .rxbit { s with shift := shift, bitc := bitc }) := by
  have hd := h.frame.read_symbols run (.inl hs)
  have clean := errc_none h run (by simp [hs])
  have index := h.frame.index_fits (.inl run)
  have count := h.frame.none_lost (.inl run) hd clean
  refine nextSymbol_inv h run low (by simp) ?_
  constructor <;> simp_all [errorFits, receivedBound]

/-- A byte received: into the holding register, or lost (R154). -/
theorem byteReceived_inv {shift : Byte} (low : s.sclO = false) (hs : s.sym = .rxbit) :
    Inv (toSym .mack (byteReceived { s with shift := shift })) := by
  have hd := h.frame.read_symbols run (.inl hs)
  have clean := errc_none h run (by simp [hs])
  have index := h.frame.index_fits (.inl run)
  have count : s.ridx.toNat + s.rxv.toNat = s.idx.toNat := by
    simpa [receivedBound, run, hs] using h.frame.none_lost (.inl run) hd clean
  unfold byteReceived
  split
  · next full =>
    have full : s.rxv = true := full
    have order : s.ridx.toNat + 1 ≤ s.idx.toNat + 1 := by simp only [full, Bool.toNat_true] at count; omega
    refine nextSymbol_inv (s := s) h run low (by simp) ?_
    constructor <;> simp_all [errorFits, receivedBound]
  · next empty =>
    refine nextSymbol_inv (s := s) h run low (by simp) ?_
    constructor <;> simp_all [errorFits, receivedBound]

/-- After the master's ACK slot: the next byte, or STOP (R154). -/
theorem nextByte_inv (low : s.sclO = false) (hs : s.sym = .mack) (clean : s.errc = .none) (more : s.idx.toNat + 1 < s.len.toNat) :
    Inv (toSym .rxbit { s with idx := s.idx + 1, bitc := 7 }) := by
  have hd := h.frame.read_symbols run (.inr hs)
  have count := h.frame.none_lost (.inl run) hd clean
  have succ := toNat_succ (more.trans s.len.isLt)
  generalize s.idx + 1 = next at succ ⊢
  refine nextSymbol_inv h run low (by simp) ?_
  constructor <;> simp_all [errorFits, receivedBound]

theorem readStop_inv (low : s.sclO = false) (hs : s.sym = .mack) (final : s.errc = .none → ¬ s.idx.toNat + 1 < s.len.toNat) :
    Inv (toSym .p s) := by
  have hd := h.frame.read_symbols run (.inr hs)
  have index := h.frame.index_fits (.inl run)
  have stops := h.frame.form_ok (outstanding_of_inFlight h (.inl run)).1 hd
  have bound := h.frame.moved_in_order (.inl run) hd
  have count := h.frame.none_lost (.inl run) hd
  have fits : s.errc = .none ∨ s.errc = .overrun := by
    have fits := h.frame.error_fits run
    cases he : s.errc <;> simp_all [errorFits]
  refine nextSymbol_inv h run low (by simp) ?_
  rcases fits with clean | overrun
  · have last : s.idx.toNat + 1 = s.len.toNat := by have := final clean; omega
    constructor <;> simp_all [errorFits, receivedBound]
  · constructor <;> simp_all [errorFits, receivedBound]

end Symbol

/-! ### The end of a frame -/

/-- A frame that ends in `IDLE` or `HELD` with its event pending keeps the invariant, if the event fits the frame (R156 to R158, R161). -/
theorem frameEnd_inv {s : State} {e errc : Ev} {f : EngineState} {sclO sdaO claimed rxv : Bool} (h : Inv s) (flying : inFlight s)
    (he : e ≠ .none)
    (empty : rxv = false) (lines : (f = .idle ∧ claimed = false ∧ sclO = true ∧ sdaO = true) ∨
      (f = .held ∧ claimed = true ∧ sclO = false ∧ sdaO = true))
    (overrun : e = .overrun → s.dir = true) (dataNack : e = .dataNack → s.dir = false)
    (done : e = .done → (s.nostop = true ↔ f = .held) ∧ (s.dir = true → s.ridx = s.len)) :
    Inv (raiseEvent e f { s with errc := errc, sclO := sclO, sdaO := sdaO, claimed := claimed, rxv := rxv }) := by
  have outstanding := (outstanding_of_inFlight h flying).1
  have rests : f = .idle ∨ f = .held := lines.imp And.left And.left
  have landed : f ≠ .run ∧ f ≠ .drain := by rcases rests with rfl | rfl <;> simp
  refine withEngineOf_inv (s := s)
    (t := raiseEvent e f { s with errc := errc, sclO := sclO, sdaO := sdaO, claimed := claimed, rxv := rxv })
    h outstanding (.inr ⟨he, rests, empty⟩) ?_
  have len_fits := h.frame.len_fits
  have form_ok := h.frame.form_ok
  constructor <;> simp_all [withEngineOf, inFlight]
  all_goals rcases lines with lines | lines <;> simp_all

/-- The end of a frame after a completed `P`, in its three cases (R157, R158). -/
theorem stopDone_cases (s : State) :
    (s.errc ≠ .none ∧ stopDone s = raiseEvent s.errc .idle { s with claimed := false, rxv := false }) ∨
    (s.errc = .none ∧ (s.dir = false ∨ s.rxv = false) ∧ stopDone s = raiseEvent .done .idle { s with claimed := false }) ∨
    (s.errc = .none ∧ s.dir = true ∧ s.rxv = true ∧ stopDone s = { s with claimed := false, fes := .drain }) := by
  by_cases he : s.errc = .none
  · refine .inr ?_
    cases hd : s.dir <;> cases hr : s.rxv <;> simp [stopDone, he, hd, hr]
  · exact .inl ⟨he, by simp [stopDone, he]⟩

theorem ridx_eq_len {s : State} (hr : s.rxv = false)
    (count : s.ridx.toNat + s.rxv.toNat = s.idx.toNat + 1) (last : s.idx.toNat + 1 = s.len.toNat) : s.ridx = s.len :=
  BitVec.eq_of_toNat_eq (by simpa [hr, last] using count)

/-- A completed `P` ends the frame, or leaves the last byte of a read to the mover (R157, R158). -/
theorem stopDone_inv {s : State} (h : Inv s) (run : s.fes = .run) (hs : s.sym = .p) (lines : s.sclO = true ∧ s.sdaO = true) :
    Inv (stopDone s) := by
  obtain ⟨outstanding, quiet⟩ := outstanding_of_inFlight h (.inl run)
  have fits := h.frame.error_fits run
  have stops := h.frame.stop_when_clean run hs
  have last := h.frame.stop_after_last run hs
  have count : s.dir = true → s.errc = .none → s.ridx.toNat + s.rxv.toNat = s.idx.toNat + 1 := fun hd clean => by
    simpa [receivedBound, run, hs] using h.frame.none_lost (.inl run) hd clean
  rcases stopDone_cases s with ⟨error, e⟩ | ⟨clean, moved, e⟩ | ⟨clean, hd, full, e⟩ <;> rw [e]
  · refine frameEnd_inv h (.inl run) error rfl (.inl ⟨rfl, rfl, lines⟩) (fun overrun => ?_) (fun dataNack => ?_) fun done => ?_
    · simp only [errorFits, overrun] at fits
      exact fits.2
    · simp only [errorFits, dataNack] at fits
      exact fits.2
    · simp [errorFits, done] at fits
  · have empty : s.rxv = false := moved.elim (h.frame.write_receives_nothing outstanding) id
    refine frameEnd_inv h (.inl run) (by simp) empty (.inl ⟨rfl, rfl, lines⟩) (by simp) (by simp)
      fun _ => ⟨by simp [stops clean], fun hd => ?_⟩
    exact ridx_eq_len empty (count hd clean) (last clean)
  · refine withEngineOf_inv (t := { s with claimed := false, fes := .drain }) h outstanding (.inl ⟨quiet, .inr rfl⟩) ?_
    have index := h.frame.index_fits (.inl run)
    have len_fits := h.frame.len_fits
    have form_ok := h.frame.form_ok
    have idle := h.frame.delivered_has_all
    constructor <;> simp_all [withEngineOf, receivedBound]

/-- The bus stays held after a write frame with no STOP (R152, R156). -/
theorem holdDone_inv {s : State} (h : Inv s) (run : s.fes = .run) (hs : s.sym = .h) (lines : s.sclO = false ∧ s.sdaO = true) :
    Inv (raiseEvent .done .held { s with claimed := true }) := by
  have hd := h.frame.write_symbols run (.inr (.inr hs))
  have empty := h.frame.write_receives_nothing (outstanding_of_inFlight h (.inl run)).1 hd
  exact frameEnd_inv h (.inl run) (by simp) empty (.inr ⟨rfl, rfl, lines⟩) (by simp) (by simp)
    fun _ => ⟨by simp [h.frame.hold_only_nostop run hs], by simp [hd]⟩

theorem busErrorEnd_inv {s : State} (h : Inv s) (flying : inFlight s) : Inv (busErrorEnd s) :=
  frameEnd_inv (e := .busError) (f := .idle) h flying (by simp) rfl (.inl ⟨rfl, rfl, rfl, rfl⟩) (by simp) (by simp) (by simp)

theorem drainStep_inv {s : State} (h : Inv s) (drain : s.fes = .drain) : Inv (drainStep s) := by
  unfold drainStep
  split
  · next empty =>
    obtain ⟨hd, clean⟩ := h.frame.drain_is_read drain
    have count : s.ridx.toNat + s.rxv.toNat = s.idx.toNat + 1 := by
      simpa [receivedBound, drain] using h.frame.none_lost (.inr drain) hd clean
    have stops := h.frame.form_ok (outstanding_of_inFlight h (.inr drain)).1 hd
    have released := h.frame.released_unclaimed (.inr drain)
    exact frameEnd_inv (s := s) h (.inr drain) (by simp) empty (.inl ⟨rfl, released⟩) (by simp) (by simp)
      fun _ => ⟨by simp [stops], fun _ => ridx_eq_len empty count (h.frame.drain_after_last drain)⟩
  · exact h

/-! ### The engine's step -/

/-- The lines a symbol's last phase leaves (R173). -/
theorem lines_after {s : State} (out : currentLines s = some (s.sclO, s.sdaO)) (last : isLastPhase s = true) :
    (s.sym = .p → s.sclO = true ∧ s.sdaO = true) ∧ (s.sym = .h → s.sclO = false ∧ s.sdaO = true) := by
  unfold currentLines at out
  simp only [isLastPhase, beq_iff_eq] at last
  generalize s.phi = phi at out last
  constructor <;> intro hs <;> fin_cases phi <;> simp_all [Sym.phases, phaseLines]

/-- The end of every symbol keeps the invariant (R151 to R158). -/
theorem symbolDone_inv {s t : State} (h : Inv s) (run : s.fes = .run) (out : currentLines s = some (s.sclO, s.sdaO))
    (last : isLastPhase s = true) (ht : symbolDone s = .next t) : Inv t := by
  have low := scl_low_after out last
  unfold symbolDone at ht
  split at ht
  case h_1 hs | h_2 hs =>
    cases ht
    exact addressPart_inv h run (low (by simp [hs])) (by simp [hs]) (.inl rfl)
  case h_3 hs =>
    split at ht <;> cases ht
    · exact addressPart_inv h run (low (by simp [hs])) (by simp [hs]) (.inr rfl)
    · exact addressPart_inv h run (low (by simp [hs])) (by simp [hs]) (.inl rfl)
  case h_4 hs =>
    split at ht
    · cases ht
      exact addressRefused_inv h run (low (by simp [hs])) hs
    · split at ht
      · next hd =>
        exact loadByte_inv (i := 0) h run (low (by simp [hs])) hd (errc_none h run (by simp [hs]))
          (h.frame.len_fits (outstanding_of_inFlight h (.inl run)).1).1 ht
      · next hd =>
        cases ht
        exact firstBit_inv h run (low (by simp [hs])) hs (by simpa using hd)
  case h_5 hs =>
    have hd := h.frame.write_symbols run (.inl hs)
    have clean := errc_none h run (by simp [hs])
    split at ht <;> cases ht
    · exact writePart_inv h run (low (by simp [hs])) hd (.inl ⟨clean, .inr rfl⟩)
    · exact writePart_inv h run (low (by simp [hs])) hd (.inl ⟨clean, .inl rfl⟩)
  case h_6 hs =>
    have hd := h.frame.write_symbols run (.inr (.inl hs))
    have clean := errc_none h run (by simp [hs])
    have index := h.frame.index_fits (.inl run)
    split at ht
    · cases ht
      exact writePart_inv h run (low (by simp [hs])) hd (.inr (.inl ⟨rfl, rfl⟩))
    · split at ht
      · next more => exact loadByte_inv h run (low (by simp [hs])) hd clean (toNat_succ (more.trans s.len.isLt) ▸ more) ht
      · have final : s.idx.toNat + 1 = s.len.toNat := by omega
        split at ht <;> cases ht
        · next stop => exact writePart_inv h run (low (by simp [hs])) hd (.inr (.inr ⟨clean, final, .inl ⟨rfl, stop⟩⟩))
        · next hold => exact writePart_inv h run (low (by simp [hs])) hd (.inr (.inr ⟨clean, final, .inr ⟨rfl, by simpa using hold⟩⟩))
  case h_7 hs =>
    split at ht <;> cases ht
    · exact byteReceived_inv h run (low (by simp [hs])) hs
    · exact nextBit_inv h run (low (by simp [hs])) hs
  case h_8 hs =>
    split at ht
    · next error =>
      cases ht
      exact readStop_inv h run (low (by simp [hs])) hs fun clean => absurd clean error
    · next clean =>
      split at ht <;> cases ht
      · next more => exact nextByte_inv h run (low (by simp [hs])) hs (by simpa using clean) more
      · next final => exact readStop_inv h run (low (by simp [hs])) hs fun _ => final
  case h_9 hs =>
    cases ht
    exact stopDone_inv h run hs ((lines_after out last).1 hs)
  case h_10 hs =>
    cases ht
    exact holdDone_inv h run hs ((lines_after out last).2 hs)

/-- A performed phase, its lines being out, keeps the invariant (R172 to R186). -/
theorem performPhase_inv {s t : State} {sclI sdaI : Bool} (h : Inv s) (run : s.fes = .run)
    (out : currentLines s = some (s.sclO, s.sdaO)) (ht : performPhase sclI sdaI s = .next t) : Inv t := by
  obtain ⟨b, same⟩ := sample_same sdaI s
  have sampled := sampled_inv h sdaI
  simp only [performPhase] at ht
  rw [same] at ht sampled
  split at ht
  · cases ht
    exact busErrorEnd_inv sampled (.inl run)
  · split at ht
    · next last => exact symbolDone_inv sampled run out last ht
    · next more =>
      cases ht
      exact nextPhase_inv sampled run out (Bool.eq_false_of_not_eq_true more)

theorem runStep_inv {s t : State} {sclT sdaT : Bool} (h : Inv s) (run : s.fes = .run) (ht : runStep sclT sdaT s = .next t) : Inv t := by
  unfold runStep at ht
  split at ht
  · cases ht
  · next lines hl =>
    have driven := drive_inv h run hl
    split at ht
    · cases ht
      exact driven
    · exact performPhase_inv driven run hl ht

theorem feStep_inv {s t : State} {sclT sdaT : Bool} (h : Inv s) (ht : feStep sclT sdaT s = .next t) : Inv t := by
  cases hf : s.fes <;> simp only [feStep, hf] at ht
  case run => exact runStep_inv h hf ht
  case drain => cases ht; exact drainStep_inv h hf
  case idle | held => cases ht; exact h

/-- The engine's part of a clock edge keeps the invariant (R362). -/
theorem feEdge_inv {s t : State} {sclT sdaT : Bool} (h : Inv s) (ht : feEdge sclT sdaT s = .next t) : Inv t := by
  unfold feEdge at ht
  split at ht
  · split at ht
    · cases ht
      exact presentPhase_inv h
    · split at ht
      · next counting =>
        cases ht
        have presented := presentPhase_inv h
        obtain ⟨sclO, sdaO, same⟩ := presentPhase_same s
        rw [same] at presented ⊢
        exact ⟨{ presented.lifecycle with }, { presented.arbiter with }, { presented.frame with
          phase_count := fun run => ⟨Nat.le_sub_one_of_lt counting, (Nat.sub_le _ _).trans (h.frame.phase_count run).2⟩ },
          { presented.sequencer with }, { presented.buffers with }, h.job⟩
      · obtain ⟨u, hu, hp⟩ := chain_eq_next ht
        cases hp
        exact presentPhase_inv (feStep_inv h hu)
  · exact feStep_inv h ht

end Sys2Proof.Machine
end

section
/-! What each agent's part of a step can do to the registers others read (spec/10_state.md R62). -/

namespace Sys2Proof.Machine

/-! ### The engine -/

/-- What the engine may do: write its own registers, raise an event but not withdraw one, and empty the holding register only where it raises
one (R45, R54, R62). -/
structure EngineEffect (s t : State) : Prop where
  same : t = withEngineOf t s
  event_stands : t.evtp = s.evtp ∨ t.evtp ≠ .none
  byte_stands : s.rxv = true → t.rxv = true ∨ t.evtp ≠ .none

/-- A part of the state that the engine does not write stands. -/
theorem EngineEffect.keeps {α : Type} {s t : State} (f : EngineEffect s t) (part : State → α)
    (blind : ∀ u, part (withEngineOf u s) = part s) : part t = part s := (congrArg part f.same).trans (blind t)

theorem EngineEffect.of_kept {s t : State} (same : t = withEngineOf t s) (event : t.evtp = s.evtp) (byte : t.rxv = s.rxv) :
    EngineEffect s t := ⟨same, .inl event, fun full => .inl (byte.trans full)⟩

theorem EngineEffect.of_raised {s t : State} (same : t = withEngineOf t s) (raised : t.evtp ≠ .none) : EngineEffect s t :=
  ⟨same, .inr raised, fun _ => .inr raised⟩

theorem EngineEffect.refl (s : State) : EngineEffect s s := .of_kept rfl rfl rfl

theorem EngineEffect.trans {s u t : State} (h1 : EngineEffect s u) (h2 : EngineEffect u t) : EngineEffect s t where
  same := withEngineOf_trans h1.same h2.same
  event_stands := h2.event_stands.elim (fun e => e ▸ h1.event_stands) .inr
  byte_stands hr := (h1.byte_stands hr).elim h2.byte_stands fun raised =>
    .inr (h2.event_stands.elim (fun e => e ▸ raised) id)

theorem stopDone_effect (s : State) : EngineEffect s (stopDone s) := by
  rcases stopDone_cases s with ⟨error, e⟩ | ⟨-, -, e⟩ | ⟨-, -, -, e⟩ <;> rw [e]
  · exact .of_raised rfl error
  · exact .of_raised rfl (by simp)
  · exact .of_kept rfl rfl rfl

theorem loadByte_effect {i : Byte} {s t : State} (ht : loadByte i s = .next t) : EngineEffect s t := by
  unfold loadByte at ht
  split at ht <;> cases ht
  exact .of_kept rfl rfl rfl

theorem toSym_effect (y : Sym) (s : State) : EngineEffect s (toSym y s) := .of_kept rfl rfl rfl

theorem byteReceived_effect (s : State) : EngineEffect s (byteReceived s) := by
  unfold byteReceived
  split
  · exact .of_kept rfl rfl rfl
  · exact ⟨rfl, .inl rfl, fun _ => .inl rfl⟩

theorem symbolDone_effect {s t : State} (ht : symbolDone s = .next t) : EngineEffect s t := by
  unfold symbolDone at ht
  split at ht
  case h_1 | h_2 => cases ht; exact .of_kept rfl rfl rfl
  case h_3 | h_5 => split at ht <;> cases ht <;> exact .of_kept rfl rfl rfl
  case h_4 =>
    split at ht
    · cases ht; exact .of_kept rfl rfl rfl
    · split at ht
      · exact loadByte_effect ht
      · cases ht; exact .of_kept rfl rfl rfl
  case h_6 =>
    split at ht
    · cases ht; exact .of_kept rfl rfl rfl
    · split at ht
      · exact loadByte_effect ht
      · split at ht <;> cases ht <;> exact .of_kept rfl rfl rfl
  case h_7 =>
    split at ht <;> cases ht
    · have shifted : EngineEffect s { s with shift := setBit s.shift s.bitc.toNat s.samp } := .of_kept rfl rfl rfl
      exact (shifted.trans (byteReceived_effect _)).trans (toSym_effect .mack _)
    · exact .of_kept rfl rfl rfl
  case h_8 => 
    split at ht
    · cases ht; exact .of_kept rfl rfl rfl
    · split at ht <;> cases ht <;> exact .of_kept rfl rfl rfl
  case h_9 => cases ht; exact stopDone_effect s
  case h_10 => cases ht; exact .of_raised rfl (by simp)

theorem performPhase_effect {s t : State} {sclI sdaI : Bool} (ht : performPhase sclI sdaI s = .next t) : EngineEffect s t := by
  obtain ⟨b, same⟩ := sample_same sdaI s
  have sampled : EngineEffect s { s with samp := b, qcnt := phaseCycles s } := .of_kept rfl rfl rfl
  simp only [performPhase] at ht
  rw [same] at ht
  split at ht
  · cases ht
    exact .of_raised rfl (by simp [busErrorEnd])
  · split at ht
    · exact sampled.trans (symbolDone_effect ht)
    · cases ht
      exact .of_kept rfl rfl rfl

theorem feStep_effect {s t : State} {sclT sdaT : Bool} (ht : feStep sclT sdaT s = .next t) : EngineEffect s t := by
  unfold feStep at ht
  split at ht
  · unfold runStep at ht
    split at ht
    · cases ht
    · next lines _ =>
      have driven : EngineEffect s (drive lines s) := .of_kept rfl rfl rfl
      split at ht
      · cases ht
        exact driven
      · exact driven.trans (performPhase_effect ht)
  · cases ht
    unfold drainStep
    split
    · exact .of_raised rfl (by simp)
    · exact .refl s
  · cases ht
    exact .refl s
  · cases ht
    exact .refl s

theorem presentPhase_effect (s : State) : EngineEffect s (presentPhase s) := by
  obtain ⟨sclO, sdaO, same⟩ := presentPhase_same s
  rw [same]
  exact .of_kept rfl rfl rfl

theorem feEdge_effect {s t : State} {sclT sdaT : Bool} (ht : feEdge sclT sdaT s = .next t) : EngineEffect s t := by
  unfold feEdge at ht
  split at ht
  · split at ht
    · cases ht
      exact presentPhase_effect s
    · split at ht
      · cases ht
        obtain ⟨same, event, byte⟩ := presentPhase_effect s
        exact ⟨withEngineOf_trans same rfl, event, byte⟩
      · obtain ⟨u, hu, hp⟩ := chain_eq_next ht
        cases hp
        exact (feStep_effect hu).trans (presentPhase_effect u)
  · exact feStep_effect ht

/-! ### The host and the sequencer -/

/-- `s` with what a command's part of a step writes taken from `t`, no frame being accepted. -/
def withAnswerOf (t s : State) : State :=
  { s with lc := t.lc, sclpin := t.sclpin, sdapin := t.sdapin, freq := t.freq, hreg := t.hreg, ien := t.ien, en := t.en,
           lock := t.lock, armed := t.armed, cflag := t.cflag, tbudget := t.tbudget, tcnt := t.tcnt, res := t.res, rej := t.rej,
           txb := t.txb, seq := t.seq, rlen := t.rlen, rsp := t.rsp, draws := t.draws, prog := t.prog, job := t.job,
           hostResult := t.hostResult, hostLog := t.hostLog }

/-- `s` with what a command's part of a step writes taken from `t`, a frame being accepted or not (R62, R142). -/
def withCommandOf (t s : State) : State :=
  { withAnswerOf t s with
    busy := t.busy, dir := t.dir, nostop := t.nostop, addr := t.addr, len := t.len, idx := t.idx, errc := t.errc, ridx := t.ridx,
    rxv := t.rxv, sym := t.sym, phi := t.phi, fes := t.fes, qcnt := t.qcnt }

/-- What a command's part of a step may do (R38, R39, R41, R49, R54, R62). -/
structure CommandEffect (s t : State) : Prop where
  same : t = withCommandOf t s
  flag_not_set : t.cflag = true → s.cflag = true
  outstanding_stands : s.busy = true → t.busy = true
  byte_not_set : t.rxv = true → s.rxv = true
  frame : t = withAnswerOf t s ∨ (s.busy = false ∧ t.busy = true)
  sent_bytes_stand : s.busy = true → s.dir = false → t.txb = s.txb

/-- A part of the state that no command writes stands. -/
theorem CommandEffect.keeps {α : Type} {s t : State} (c : CommandEffect s t) (part : State → α)
    (blind : ∀ u, part (withCommandOf u s) = part s) : part t = part s := (congrArg part c.same).trans (blind t)

/-- A part of a command that accepts no frame, and clears or keeps the flag. -/
theorem CommandEffect.of_answer {s t : State} (same : t = withAnswerOf t s) (flag : t.cflag = false ∨ t.cflag = s.cflag)
    (sent : s.busy = true → s.dir = false → t.txb = s.txb) : CommandEffect s t where
  same := calc
    t = withCommandOf t t := rfl
    _ = withCommandOf t (withAnswerOf t s) := congrArg (withCommandOf t) same
    _ = withCommandOf t s := rfl
  flag_not_set set := flag.elim (fun off => absurd (off.symm.trans set) (by simp)) fun kept => kept.symm.trans set
  outstanding_stands hb := (congrArg State.busy same).trans hb
  byte_not_set hr := (congrArg State.rxv same).symm.trans hr
  frame := .inl same
  sent_bytes_stand := sent

/-- A part of a command that accepts a frame, and clears or keeps the flag. -/
theorem CommandEffect.of_launch {s t : State} (same : t = withCommandOf t s) (flag : t.cflag = false ∨ t.cflag = s.cflag)
    (byte : t.rxv = false ∨ t.rxv = s.rxv) (idle : s.busy = false) (launched : t.busy = true) : CommandEffect s t where
  same := same
  flag_not_set set := flag.elim (fun off => absurd (off.symm.trans set) (by simp)) fun kept => kept.symm.trans set
  outstanding_stands _ := launched
  byte_not_set hr := byte.elim (fun off => absurd (off.symm.trans hr) (by simp)) fun kept => kept.symm.trans hr
  frame := .inr ⟨idle, launched⟩
  sent_bytes_stand hb := absurd (idle.symm.trans hb) (by simp)

/-- While a frame is outstanding the port accepts none (R141, R232). -/
theorem CommandEffect.answer_of_outstanding {s t : State} (c : CommandEffect s t) (outstanding : s.busy = true) :
    t = withAnswerOf t s := c.frame.resolve_right fun launched => absurd (outstanding.symm.trans launched.1) (by simp)

theorem CommandEffect.refl (s : State) : CommandEffect s s := .of_answer rfl (.inr rfl) fun _ _ => rfl

theorem raiseIllegal_effect (s : State) : CommandEffect s (raiseIllegal s) := .of_answer rfl (.inr rfl) fun _ _ => rfl

theorem submit_effect (d n : Bool) (a : BusAddr) (l : Byte) (s : State) : CommandEffect s (submit d n a l s) := by
  rcases submit_cases d n a l s with ⟨accepted, e⟩ | ⟨-, e⟩ <;> rw [e]
  · obtain ⟨-, idle, -⟩ := submitCheck_none.1 accepted
    exact .of_launch rfl (.inr rfl) (by cases d <;> simp) idle rfl
  · exact .of_answer rfl (.inr rfl) fun _ _ => rfl

/-- `primLaunch` does not look at `RLEN`, which `RBLK` has written before (R240). -/
theorem primLaunch_effect (d ns : Bool) (n l rlen : Byte) (m : Memory) (q : SeqPoint) (s : State) :
    CommandEffect s (primLaunch d ns n l m q { s with rlen := rlen }) := by
  rcases primLaunch_cases d ns n l m q { s with rlen := rlen } with ⟨accepted, -, e⟩ | ⟨accepted, -, e⟩ | ⟨-, e⟩ <;> rw [e]
  · obtain ⟨-, idle, -⟩ := primCheck_none.1 accepted
    exact .of_launch rfl (.inl rfl) (by cases d <;> simp [flagReset]) idle rfl
  · obtain ⟨-, idle, -⟩ := primCheck_none.1 accepted
    exact .of_launch rfl (.inl rfl) (by cases d <;> simp [flagReset]) idle rfl
  · exact .of_answer rfl (.inl rfl) fun _ _ => rfl

theorem exec_effect {i : Instr} {s t : State} (ht : exec i s = .next t) : CommandEffect s t := by
  cases i with
  | init scl sda f =>
    cases ht
    split
    · exact .of_answer rfl (.inr rfl) fun _ _ => rfl
    · split <;> exact .of_answer rfl (.inr rfl) fun _ _ => rfl
  | frst => cases ht; exact .of_answer rfl (.inl rfl) fun _ _ => rfl
  | submitW a n => cases ht; exact submit_effect ..
  | submitWN a n => cases ht; exact submit_effect ..
  | submitR a n => cases ht; exact submit_effect ..
  | submitRN a n => cases ht; exact submit_effect ..
  | wait b => cases ht; split <;> exact .of_answer rfl (.inr rfl) fun _ _ => rfl
  | wreg r v => cases ht; exact primLaunch_effect (rlen := s.rlen) ..
  | wblk r n => cases ht; exact primLaunch_effect (rlen := s.rlen) ..
  | rblk r n => cases ht; exact primLaunch_effect (rlen := n) ..
  | stb i b =>
    cases ht
    split
    · next allowed =>
      refine .of_answer rfl (.inr rfl) fun outstanding write => ?_
      simp [storeAllowed, outstanding, write] at allowed
    · exact raiseIllegal_effect s
  | ldb i =>
    cases ht
    split
    · exact .of_answer rfl (.inr rfl) fun _ _ => rfl
    · exact raiseIllegal_effect s
  | stmo b => cases ht; exact .of_answer rfl (.inr rfl) fun _ _ => rfl
  | rdst sel =>
    cases ht
    split
    · exact .of_answer rfl (.inr rfl) fun _ _ => rfl
    · exact raiseIllegal_effect s

theorem takeWord_effect {w : Word} {s t : State} (ht : takeWord w s = .next t) : CommandEffect s t := by
  unfold takeWord at ht
  split at ht
  · exact exec_effect ht
  · cases ht
    exact raiseIllegal_effect s

/-- The host's side has moved on before the command, which is no part of the block. -/
theorem presentNext_effect {s t : State} (ht : presentNext s = .next t) : CommandEffect s t := by
  rcases presentNext_cases s with rests | ⟨w, prog, job, result, taken⟩
  · rw [rests] at ht
    cases ht
    exact .refl s
  · rw [taken] at ht
    obtain ⟨same, flag, outstanding, byte, frame, sent⟩ := takeWord_effect ht
    exact ⟨same, flag, outstanding, byte, frame, sent⟩

theorem hostStep_effect {s t : State} (ht : hostStep s = .next t) : CommandEffect s t := by
  unfold hostStep at ht
  split at ht
  · exact presentNext_effect ht
  · cases ht
    exact .refl s

theorem readPhaseTwoLaunch_effect (s : State) : CommandEffect s (readPhaseTwoLaunch s) := by
  rcases readPhaseTwoLaunch_cases s with ⟨-, idle, e⟩ | ⟨cause, e⟩ <;> rw [e]
  · exact .of_launch rfl (.inl rfl) (.inl rfl) idle rfl
  · exact .of_answer rfl (.inl rfl) fun _ _ => rfl

theorem seqStep_effect {s t : State} (ht : seqStep s = .next t) : CommandEffect s t := by
  cases seqStep_outcome ht with
  | idle => exact .refl s
  | tick => exact .of_answer rfl (.inr rfl) fun _ _ => rfl
  | finish => exact .of_answer rfl (.inr rfl) fun _ _ => rfl
  | finishWait => exact .of_answer rfl (.inr rfl) fun _ _ => rfl
  | phaseOneDone => exact .of_answer rfl (.inr rfl) fun _ _ => rfl
  | phaseTwoLaunch => exact readPhaseTwoLaunch_effect s

theorem seqAgentStep_effect {s t : State} (ht : seqAgentStep s = .next t) : CommandEffect s t := by
  unfold seqAgentStep at ht
  split at ht
  · exact seqStep_effect ht
  · cases ht
    exact .refl s

end Sys2Proof.Machine
end

section
/-! A move in its agents' parts: what each of them may do, said once for the moves of the step level and for the clock edge (spec/00_scope.md R19,
spec/60_exceptions.md R322). -/

namespace Sys2Proof.Machine

/-- The host has its turn in this move (R19, R21). -/
def hostTurn (m : Move) : Prop := m = .host ∨ ∃ e, m = .edge e ∧ e.cmdValid = true

/-- The mover has its turn in this move (R155). -/
def moverTurn (m : Move) : Prop := m = .mover ∨ ∃ e, m = .edge e ∧ e.moverGo = true

/-- What happens at the command port in one move (R19, R322). -/
inductive PortPart (m : Move) (s : State) : State → Prop where
  | rests : PortPart m s s
  | sequencer {t : State} (closed : s.lock = true) (ht : seqStep s = .next t) : PortPart m s t
  | host {t : State} (ready : s.lock = false) (turn : hostTurn m) (ht : presentNext s = .next t) : PortPart m s t

/-- What the engine does in one move, the state before it being `s` and its own turn coming in `u` (R172, R322, R362). -/
inductive EnginePart (s u : State) : State → Prop where
  | rests : EnginePart s u u
  | steps {sclT sdaT : Bool} {t : State} (enabled : feEnabled s = true) (ht : feStep sclT sdaT u = .next t) : EnginePart s u t
  | clocks {sclT sdaT : Bool} {t : State} (enabled : feEnabled s = true) (ht : feEdge sclT sdaT u = .next t) : EnginePart s u t

/-- What the mover does in one move, the state before it being `s` and its own turn coming in `u` (R155, R322). -/
inductive MoverPart (m : Move) (s u : State) : State → Prop where
  | rests : MoverPart m s u u
  | moves {t : State} (full : s.rxv = true) (turn : moverTurn m) (ht : moveByte u = .next t) : MoverPart m s u t

/-- What the completion unit does in one move (R311, R322). -/
inductive CompletionPart (s u : State) : State → Prop where
  | rests : CompletionPart s u u
  | delivers (pending : s.evtp ≠ .none) : CompletionPart s u (deliverCompletion u)

theorem PortPart.effect {m : Move} {s t : State} (h : PortPart m s t) : CommandEffect s t := by
  cases h with
  | rests => exact .of_answer rfl (.inr rfl) fun _ _ => rfl
  | sequencer _ ht => exact seqStep_effect ht
  | host _ _ ht => exact presentNext_effect ht

theorem EnginePart.effect {s u t : State} (h : EnginePart s u t) : EngineEffect u t := by
  cases h with
  | rests => exact .refl u
  | steps _ ht => exact feStep_effect ht
  | clocks _ ht => exact feEdge_effect ht

theorem completionPart_of_enabled {s u : State} (on : cbEnabled s = true) : CompletionPart s u (deliverCompletion u) :=
  .delivers (by simp_all [cbEnabled])

theorem whenOn_cases {b : Bool} {f : State → Result} {s t : State} (ht : whenOn b f s = .next t) :
    (b = true ∧ f s = .next t) ∨ (b = false ∧ t = s) := by
  unfold whenOn at ht
  split at ht
  · next on => exact .inl ⟨on, ht⟩
  · next off =>
    cases ht
    exact .inr ⟨by simpa using off, rfl⟩

/-- The state after a move other than reset, as its agents' parts make it: port, engine, mover, completion unit, in this order (R19, R322). -/
def inParts (m : Move) (s t : State) : Prop :=
  ∃ s1 s2 s3, PortPart m s s1 ∧ EnginePart s s1 s2 ∧ MoverPart m s s2 s3 ∧ CompletionPart s s3 t

theorem clockEdge_parts {e : EdgeIn} {s t : State} (running : e.rstN = true) (ht : clockEdge e s = .next t) : inParts (.edge e) s t := by
  unfold clockEdge at ht
  rw [if_neg (by simp [running])] at ht
  obtain ⟨s1, port, ht⟩ := chain_eq_next ht
  obtain ⟨s2, engine, ht⟩ := chain_eq_next ht
  obtain ⟨s3, mover, ht⟩ := chain_eq_next ht
  cases ht
  refine ⟨s1, s2, s3, ?_, ?_, ?_, ?_⟩
  · split at port
    · next closed => exact .sequencer closed port
    · next ready =>
      rcases whenOn_cases port with ⟨taken, port⟩ | ⟨-, rfl⟩
      · have valid : e.cmdValid = true := (Bool.and_eq_true_iff.1 taken).1
        exact .host (by simpa using ready) (.inr ⟨e, rfl, valid⟩) port
      · exact .rests
  · rcases whenOn_cases engine with ⟨enabled, engine⟩ | ⟨-, rfl⟩
    · exact .clocks enabled engine
    · exact .rests
  · rcases whenOn_cases mover with ⟨on, mover⟩ | ⟨-, rfl⟩
    · obtain ⟨full, go⟩ := Bool.and_eq_true_iff.1 on
      exact .moves full (.inr ⟨e, rfl, go⟩) mover
    · exact .rests
  · split
    · next on => exact completionPart_of_enabled (Bool.and_eq_true_iff.1 on).1
    · exact .rests

/-- A move of one agent has its part only, a clock edge may have all four (R19, R322). -/
theorem perform_parts {m : Move} {s t : State} (hm : isReset m = false) (ht : perform m s = .next t) : inParts m s t := by
  cases m with
  | reset => cases hm
  | host =>
    refine ⟨t, t, t, ?_, .rests, .rests, .rests⟩
    cases hl : s.lock with
    | false => exact .host hl (.inl rfl) (hostStep_of_unlocked hl ▸ ht)
    | true =>
      cases (hostStep_of_locked hl).symm.trans ht
      exact .rests
  | seq =>
    refine ⟨t, t, t, ?_, .rests, .rests, .rests⟩
    simp only [perform, seqAgentStep] at ht
    split at ht
    · next closed => exact .sequencer closed ht
    · cases ht
      exact .rests
  | fe sclT sdaT =>
    refine ⟨s, t, t, .rests, ?_, .rests, .rests⟩
    cases enabled : feEnabled s with
    | true => exact .steps enabled ht
    | false =>
      have resting : s.fes = .idle ∨ s.fes = .held := by cases hf : s.fes <;> simp_all [feEnabled]
      cases (feStep_of_resting resting sclT sdaT).symm.trans ht
      exact .rests
  | mover =>
    refine ⟨s, s, t, .rests, .rests, ?_, .rests⟩
    simp only [perform, moverStep] at ht
    split at ht
    · next full => exact .moves full (.inl rfl) ht
    · cases ht
      exact .rests
  | cb =>
    refine ⟨s, s, s, .rests, .rests, .rests, ?_⟩
    cases ht
    unfold cbStep
    split
    · next on => exact completionPart_of_enabled on
    · exact .rests
  | edge e => exact clockEdge_parts (by simpa [isReset] using hm) ht

theorem perform_of_reset {m : Move} {s t : State} (hm : isReset m = true) (ht : perform m s = .next t) : t = resetBlock s := by
  cases m with
  | reset => cases ht; rfl
  | edge e =>
    simp only [perform, clockEdge] at ht
    rw [if_pos (by simpa [isReset] using hm)] at ht
    cases ht
    rfl
  | _ => cases hm

/-- A byte moved is in `RXB`, and nothing else but the mover's index and the holding register's mark has changed (R155). -/
theorem moveByte_same {s t : State} (ht : moveByte s = .next t) : ∃ rxb ridx, t = { s with rxb := rxb, ridx := ridx, rxv := false } := by
  unfold moveByte at ht
  split at ht <;> cases ht
  exact ⟨_, _, rfl⟩

/-- A part of the state that the mover does not write stands. -/
theorem MoverPart.keeps {α : Type} {m : Move} {s u t : State} (h : MoverPart m s u t) (part : State → α)
    (blind : ∀ rxb ridx rxv, part { u with rxb := rxb, ridx := ridx, rxv := rxv } = part u) : part t = part u := by
  cases h with
  | rests => rfl
  | moves _ _ ht =>
    obtain ⟨rxb, ridx, rfl⟩ := moveByte_same ht
    exact blind rxb ridx false

/-- A part of the state that the completion unit does not write stands. -/
theorem CompletionPart.keeps {α : Type} {s u t : State} (h : CompletionPart s u t) (part : State → α)
    (blind : part (deliverCompletion u) = part u) : part t = part u := by
  cases h with
  | rests => rfl
  | delivers => exact blind

/-- What neither engine, mover nor completion unit writes is after a move as the port's part left it. -/
theorem after_port {α : Type} {m : Move} {s s1 s2 s3 t : State} (fe : EnginePart s s1 s2) (mv : MoverPart m s s2 s3)
    (cb : CompletionPart s s3 t) (part : State → α) (engine : ∀ u v, part (withEngineOf u v) = part v)
    (mover : ∀ u rxb ridx rxv, part { u with rxb := rxb, ridx := ridx, rxv := rxv } = part u)
    (completion : ∀ u, part (deliverCompletion u) = part u) : part t = part s1 :=
  ((cb.keeps part (completion s3)).trans (mv.keeps part (mover s2))).trans (fe.effect.keeps part fun u => engine u s1)

end Sys2Proof.Machine
end

section
/-! The mover, every move and the whole step keep the invariant, so it holds in every reachable state (spec/10_state.md R36, R40;
spec/60_exceptions.md R322). -/

namespace Sys2Proof.Machine

/-! ### The mover -/

theorem outstanding_of_full {s : State} (h : Inv s) (full : s.rxv = true) : s.busy = true := by
  by_contra hb
  have := (h.arbiter.idle_quiet (by simpa using hb)).2.2
  simp [full] at this

theorem read_of_full {s : State} (h : Inv s) (full : s.rxv = true) : s.dir = true := by
  by_contra hd
  have := h.frame.write_receives_nothing (outstanding_of_full h full) (by simpa using hd)
  simp [full] at this

/-- Moving the byte of the holding register keeps the invariant, also on the clock edge on which the frame ends in an error and the engine empties
the register first (R155, R322; log entry 10). -/
theorem movedByte_inv {s : State} (h : Inv s) (outstanding : s.busy = true) (place : s.ridx.toNat < s.par.rxCap)
    (pending : s.rxv = true ∨ (s.evtp ≠ .none ∧ s.evtp ≠ .done)) :
    Inv { s with rxb := Memory.put s.rxb s.ridx.toNat s.rxd, ridx := s.ridx + 1, rxv := false } := by
  have cap := s.par.dataCap_bounds
  have succ : (s.ridx + 1).toNat = s.ridx.toNat + 1 := toNat_succ (by unfold Params.rxCap at place; omega)
  have full_of_inFlight : inFlight s → s.rxv = true := fun flying =>
    pending.resolve_right fun ended => ended.1 (outstanding_of_inFlight h flying).2
  have not_done : s.evtp ≠ .done := fun done =>
    pending.elim (fun full => by simpa [full] using (h.arbiter.pending_over (by simp [done])).2.2) (fun ended => ended.2 done)
  refine ⟨{ h.lifecycle with },
    { h.arbiter with
      idle_quiet := fun idle => absurd (outstanding.symm.trans idle) (by simp)
      pending_over := fun he => ⟨outstanding, (h.arbiter.pending_over he).2.1, rfl⟩ },
    { h.frame with
      write_receives_nothing := fun _ _ => rfl
      moved_in_order := fun flying hd => ?_
      none_lost := fun flying hd clean => ?_
      done_has_all := fun done => absurd done not_done
      delivered_has_all := fun idle => absurd (outstanding.symm.trans idle) (by simp) },
    { h.sequencer with },
    { h.buffers with
      rxb_wf := Memory.put_wf _ _ h.buffers.rxb_wf
      rxb_within := Memory.put_within _ h.buffers.rxb_within place }, h.job⟩
  · have bound := h.frame.moved_in_order flying hd
    rw [full_of_inFlight flying] at bound
    exact succ ▸ bound
  · have count := h.frame.none_lost flying hd clean
    rw [full_of_inFlight flying] at count
    exact succ ▸ count

theorem moveByte_inv {s t : State} (h : Inv s) (outstanding : s.busy = true) (place : s.ridx.toNat < s.par.rxCap)
    (pending : s.rxv = true ∨ (s.evtp ≠ .none ∧ s.evtp ≠ .done)) (ht : moveByte s = .next t) : Inv t := by
  rw [moveByte_next place] at ht
  cases ht
  exact movedByte_inv h outstanding place pending

/-! ### The parts of a move -/

theorem PortPart.inv {m : Move} {s t : State} (part : PortPart m s t) (h : Inv s) : Inv t := by
  cases part with
  | rests => exact h
  | sequencer _ ht => exact seqStep_inv h ht
  | host ready _ ht => exact presentNext_inv h ready ht

theorem EnginePart.inv {s u t : State} (part : EnginePart s u t) (h : Inv u) : Inv t := by
  cases part with
  | rests => exact h
  | steps _ ht => exact feStep_inv h ht
  | clocks _ ht => exact feEdge_inv h ht

/-- Where the mover was enabled before the edge, what it finds after the engine's part can be moved (R155, R322). -/
theorem moverPart_inv {s s1 s2 t : State} (h1 : Inv s1) (h2 : Inv s2) (outstanding : s.busy = true) (full : s.rxv = true)
    (c : CommandEffect s s1) (f : EngineEffect s1 s2) (ht : moveByte s2 = .next t) : Inv t := by
  have answered := c.answer_of_outstanding outstanding
  have full1 : s1.rxv = true := (congrArg State.rxv answered).trans full
  have outstanding1 := outstanding_of_full h1 full1
  obtain ⟨inside, fits⟩ := ridx_lt h1 full1
  have ridx : s2.ridx = s1.ridx := f.keeps (·.ridx) fun _ => rfl
  have len : s2.len = s1.len := f.keeps (·.len) fun _ => rfl
  have par : s2.par = s1.par := f.keeps (·.par) fun _ => rfl
  have dir : s2.dir = s1.dir := f.keeps (·.dir) fun _ => rfl
  have not_done : s2.evtp ≠ .done := fun done => by
    have all := h2.frame.done_has_all done (dir.trans (read_of_full h1 full1))
    rw [ridx, len] at all
    simp [all] at inside
  exact moveByte_inv h2 ((f.keeps (·.busy) fun _ => rfl).trans outstanding1) (by rw [ridx, par]; exact inside.trans_le fits)
    ((f.byte_stands full1).imp_right fun raised => ⟨raised, not_done⟩) ht

/-- An event pending before a move is still pending when the completion unit's turn comes, engine and mover resting (R322). -/
theorem pending_until_completion {m : Move} {s s1 s2 s3 : State} (h : Inv s) (pending : s.evtp ≠ .none) (c : CommandEffect s s1)
    (engine : EnginePart s s1 s2) (mover : MoverPart m s s2 s3) : s3.evtp ≠ .none := by
  obtain ⟨-, rests, empty⟩ := h.arbiter.pending_over pending
  have off : feEnabled s = false := by rcases rests with hf | hf <;> simp [feEnabled, hf]
  have event : s1.evtp = s.evtp := c.keeps (·.evtp) fun _ => rfl
  cases engine with
  | rests =>
    cases mover with
    | rests => exact event ▸ pending
    | moves full => simp [empty] at full
  | steps enabled => simp [off] at enabled
  | clocks enabled => simp [off] at enabled

/-! ### One step -/

/-- Every move keeps the invariant: part by part, in the order of the parts. -/
theorem perform_inv {m : Move} {s t : State} (h : Inv s) (ht : perform m s = .next t) : Inv t := by
  cases hm : isReset m with
  | true =>
    rw [perform_of_reset hm ht]
    exact resetBlock_inv s
  | false =>
    obtain ⟨s1, s2, s3, port, engine, mover, completion⟩ := perform_parts hm ht
    have h1 := port.inv h
    have h2 := engine.inv h1
    have h3 : Inv s3 := by
      cases mover with
      | rests => exact h2
      | moves full _ ht => exact moverPart_inv h1 h2 (outstanding_of_full h full) full port.effect engine.effect ht
    cases completion with
    | rests => exact h3
    | delivers pending => exact deliver_inv h3 (pending_until_completion h pending port.effect engine mover)

theorem takeMove_inv {s : State} (h : Inv s) : Inv (clearPort (takeMove s).2) := by
  unfold takeMove
  split <;> exact surroundings_inv h none s.prog s.hostResult s.hostLog _ _

/-- Settles O44: the invariant does not look at the agenda, every agent's move keeps it, and so does the host's reading of the response. -/
theorem everyStepKeepsTheInvariant : Obligations.EveryStepKeepsTheInvariant := by
  intro s t h ht
  obtain ⟨u, hu, received⟩ := chain_eq_next (ht : advance s = .next t)
  cases received
  exact hostReceive_inv (perform_inv (takeMove_inv h) hu)

theorem reachable_inv {s : State} (hs : Reachable s) : Inv s := by
  induction hs with
  | boot p prog agenda draws => exact boot_inv p prog agenda draws
  | step _ ht ih => exact everyStepKeepsTheInvariant _ _ ih ht

/-- Settles O46: the stated invariants are parts of the one every step keeps. -/
theorem reachableStatesMeetTheStatedInvariants : Obligations.ReachableStatesMeetTheStatedInvariants := by
  intro s hs
  obtain ⟨⟨ready, ien, hreg, -⟩, arbiter, -, sequencer, -, -⟩ := reachable_inv hs
  refine ⟨⟨ready, ?_, ?_⟩, arbiter.armed_quiet, arbiter.idle_quiet, ?_, arbiter.busy_ready, sequencer.lock_iff⟩
  · intro hlc
    exact ⟨ien.trans (ready.1 hlc), hreg.trans (ready.1 hlc)⟩
  · intro hlc
    have off : s.en = false := by simpa using mt ready.2 hlc
    exact ⟨off, ien.trans off, hreg.trans off⟩
  · intro he
    obtain ⟨outstanding, rests, -⟩ := arbiter.pending_over he
    exact ⟨outstanding, rests⟩

end Sys2Proof.Machine
end

section
/-! Who writes the lifecycle, the configuration, the buffers and the frame descriptor (spec/10_state.md R31 to R35, R47 to R49, R96). -/

namespace Sys2Proof.Machine

/-! ### The lifecycle and the configuration -/

/-- The lifecycle, the configuration and the three enabling bits (R31 to R35). -/
def configuration (s : State) : Lifecycle × Byte × Byte × FreqCode × Bool × Bool × Bool :=
  (s.lc, s.sclpin, s.sdapin, s.freq, s.hreg, s.ien, s.en)

/-- What a step can do to them (R31, R290, R291). -/
inductive ConfigurationStep (s t : State) : Prop where
  | kept (same : configuration t = configuration s)
  | ready (fresh : s.lc = .uninit) (scl sda : Byte) (f : FreqCode) (new : configuration t = (.ready, scl, sda, f, true, true, true))
  | failed (fresh : s.lc = .uninit) (new : configuration t = (.failed, s.sclpin, s.sdapin, s.freq, s.hreg, s.ien, s.en))

theorem submit_configuration (d n : Bool) (a : BusAddr) (l : Byte) (s : State) : configuration (submit d n a l s) = configuration s := by
  rcases submit_cases d n a l s with ⟨-, e⟩ | ⟨-, e⟩ <;> rw [e] <;> rfl

theorem primLaunch_configuration (d ns : Bool) (n l : Byte) (m : Memory) (q : SeqPoint) (s : State) :
    configuration (primLaunch d ns n l m q s) = configuration s := by
  rcases primLaunch_cases d ns n l m q s with ⟨-, -, e⟩ | ⟨-, -, e⟩ | ⟨-, e⟩ <;> rw [e] <;> rfl

/-- No command but `INIT` touches the lifecycle and the configuration (R31). -/
theorem exec_configuration {i : Instr} {s t : State} (ht : exec i s = .next t) :
    configuration t = configuration s ∨ ∃ scl sda f, i = .init scl sda f := by
  cases i with
  | init scl sda f => exact .inr ⟨scl, sda, f, rfl⟩
  | frst => cases ht; exact .inl rfl
  | submitW a n => cases ht; exact .inl (submit_configuration ..)
  | submitWN a n => cases ht; exact .inl (submit_configuration ..)
  | submitR a n => cases ht; exact .inl (submit_configuration ..)
  | submitRN a n => cases ht; exact .inl (submit_configuration ..)
  | wait b => cases ht; split <;> exact .inl rfl
  | wreg r v => cases ht; exact .inl (primLaunch_configuration ..)
  | wblk r n => cases ht; exact .inl (primLaunch_configuration ..)
  | rblk r n => cases ht; exact .inl (primLaunch_configuration ..)
  | stb i b => cases ht; split <;> exact .inl rfl
  | ldb i => cases ht; split <;> exact .inl rfl
  | stmo b => cases ht; exact .inl rfl
  | rdst sel => cases ht; split <;> exact .inl rfl

theorem exec_configurationStep {i : Instr} {s t : State} (ht : exec i s = .next t) : ConfigurationStep s t := by
  rcases exec_configuration ht with same | ⟨scl, sda, f, rfl⟩
  · exact .kept same
  · cases ht
    split
    · exact .kept rfl
    · next uninit =>
      have fresh : s.lc = .uninit := by simpa using uninit
      split
      · exact .ready fresh scl sda f rfl
      · exact .failed fresh rfl

theorem presentNext_configurationStep {s t : State} (ht : presentNext s = .next t) : ConfigurationStep s t := by
  rcases presentNext_cases s with rests | ⟨w, prog, job, result, taken⟩
  · rw [rests] at ht
    cases ht
    exact .kept rfl
  · rw [taken] at ht
    unfold takeWord at ht
    split at ht
    · cases exec_configurationStep ht with
      | kept same => exact .kept same
      | ready fresh scl sda f new => exact .ready fresh scl sda f new
      | failed fresh new => exact .failed fresh new
    · cases ht
      exact .kept rfl

theorem seqStep_configuration {s t : State} (ht : seqStep s = .next t) : configuration t = configuration s := by
  cases seqStep_outcome ht with
  | phaseTwoLaunch => rcases readPhaseTwoLaunch_cases s with ⟨-, -, e⟩ | ⟨cause, e⟩ <;> rw [e] <;> rfl
  | _ => rfl

/-- In a move the lifecycle and the configuration stand, unless the host has its turn with the port open (R31). -/
theorem PortPart.configuration {m : Move} {s t : State} (h : PortPart m s t) :
    configuration t = configuration s ∨ (s.lock = false ∧ hostTurn m ∧ ConfigurationStep s t) := by
  cases h with
  | rests => exact .inl rfl
  | sequencer _ ht => exact .inl (seqStep_configuration ht)
  | host ready turn ht => exact .inr ⟨ready, turn, presentNext_configurationStep ht⟩

/-- What the three cases of a step of the configuration have in common (R31, R36). -/
theorem ConfigurationStep.rules {s t : State} (h : ConfigurationStep s t) :
    (s.lc ≠ .uninit → configuration t = configuration s) ∧
    (t.lc = .uninit ∨ t.lc = .failed → (configuration t).2 = (configuration s).2) ∧
    (s.hreg = true → t.hreg = true) ∧ (s.ien = true → t.ien = true) ∧ (s.en = true → t.en = true) := by
  cases h with
  | kept same =>
    refine ⟨fun _ => same, fun _ => congrArg Prod.snd same, ?_⟩
    simp_all [configuration]
  | ready fresh scl sda f new => simp_all [configuration]
  | failed fresh new => simp_all [configuration]

theorem perform_par {m : Move} {s t : State} (ht : perform m s = .next t) : t.par = s.par := by
  cases hm : isReset m with
  | true =>
    rw [perform_of_reset hm ht]
    rfl
  | false =>
    obtain ⟨s1, s2, s3, port, engine, mover, completion⟩ := perform_parts hm ht
    have behind := after_port engine mover completion (·.par) (fun _ _ => rfl) (fun _ _ _ _ => rfl) fun _ => rfl
    exact behind.trans (port.effect.keeps (·.par) fun _ => rfl)

/-- Settles O48: only the host's turn with the port open can change the configuration, there only `INIT`, and `INIT` only from `Uninit`. -/
theorem configurationChangesOnceOnly : Obligations.ConfigurationChangesOnceOnly := by
  intro m s t ht
  refine ⟨perform_par ht, fun hm => ?_, fun i u hu changed => ?_⟩
  · obtain ⟨s1, s2, s3, port, engine, mover, completion⟩ := perform_parts hm ht
    have behind := after_port engine mover completion configuration (fun _ _ => rfl) (fun _ _ _ _ => rfl) fun _ => rfl
    have stepped : ConfigurationStep s t ∧ (t.lc ≠ s.lc → s.lock = false ∧ hostTurn m) := by
      rcases port.configuration with same | ⟨ready, turn, moved⟩
      · have same := behind.trans same
        exact ⟨.kept same, fun changed => absurd (congrArg Prod.fst same) changed⟩
      · refine ⟨?_, fun _ => ⟨ready, turn⟩⟩
        cases moved with
        | kept same => exact .kept (behind.trans same)
        | ready fresh scl sda f new => exact .ready fresh scl sda f (behind.trans new)
        | failed fresh new => exact .failed fresh (behind.trans new)
    obtain ⟨moved, onTurn⟩ := stepped
    obtain ⟨settled, unconfigured, hreg, ien, en⟩ := moved.rules
    simp only [configuration, Prod.mk.injEq] at settled unconfigured
    exact ⟨settled, unconfigured, hreg, ien, en, onTurn⟩
  · exact (exec_configuration hu).resolve_left fun same => changed (congrArg Prod.fst same)

/-! ### The buffers and the frame descriptor -/

/-- The latched frame descriptor (R49). -/
def descriptor (s : State) : Bool × Bool × BusAddr × Byte := (s.dir, s.nostop, s.addr, s.len)

theorem descriptor_ne {s t : State} (h : t.dir ≠ s.dir ∨ t.nostop ≠ s.nostop ∨ t.addr ≠ s.addr ∨ t.len ≠ s.len) :
    descriptor t ≠ descriptor s := by
  intro same
  simp only [descriptor, Prod.mk.injEq] at same
  tauto

theorem CommandEffect.descriptor_of_outstanding {s t : State} (c : CommandEffect s t) (outstanding : s.busy = true) :
    descriptor t = descriptor s := by
  rw [c.answer_of_outstanding outstanding]
  rfl

theorem CommandEffect.launched_of_descriptor {s t : State} (c : CommandEffect s t) (changed : descriptor t ≠ descriptor s) :
    s.busy = false ∧ t.busy = true := by
  refine c.frame.resolve_left fun same => changed ?_
  rw [same]
  rfl

theorem seqStep_txb {s t : State} (ht : seqStep s = .next t) : t.txb = s.txb := by
  cases seqStep_outcome ht with
  | phaseTwoLaunch => rcases readPhaseTwoLaunch_cases s with ⟨-, -, e⟩ | ⟨cause, e⟩ <;> rw [e] <;> rfl
  | _ => rfl

theorem PortPart.txb {m : Move} {s t : State} (h : PortPart m s t) (changed : t.txb ≠ s.txb) : s.lock = false ∧ hostTurn m := by
  cases h with
  | rests => exact absurd rfl changed
  | sequencer _ ht => exact absurd (seqStep_txb ht) changed
  | host ready turn _ => exact ⟨ready, turn⟩

/-- Settles O50: each buffer has one writer among the parts of a move, and the descriptor is written by the launch alone. -/
theorem buffersAndDescriptorHaveTheStatedWriters : Obligations.BuffersAndDescriptorHaveTheStatedWriters := by
  intro m s t h hm ht
  obtain ⟨s1, s2, s3, port, engine, mover, completion⟩ := perform_parts hm ht
  have txb := after_port engine mover completion (·.txb) (fun _ _ => rfl) (fun _ _ _ _ => rfl) fun _ => rfl
  have frame := after_port engine mover completion descriptor (fun _ _ => rfl) (fun _ _ _ _ => rfl) fun _ => rfl
  refine ⟨fun changed => ?_, fun changed => port.txb (txb ▸ changed), fun outstanding write => ?_, fun outstanding => ?_, fun changed => ?_⟩
  · have stored : t.rxb = s3.rxb := completion.keeps (·.rxb) rfl
    have untouched : s2.rxb = s.rxb := (engine.effect.keeps (·.rxb) fun _ => rfl).trans (port.effect.keeps (·.rxb) fun _ => rfl)
    cases mover with
    | rests => exact absurd (stored.trans untouched) changed
    | moves full turn _ => exact ⟨full, turn⟩
  · exact txb.trans (port.effect.sent_bytes_stand outstanding write)
  · have same := frame.trans (port.effect.descriptor_of_outstanding outstanding)
    simpa only [descriptor, Prod.mk.injEq] using same
  · obtain ⟨idle, launched⟩ := port.effect.launched_of_descriptor (frame ▸ descriptor_ne changed)
    have moved : s3.busy = s1.busy := (mover.keeps (·.busy) fun _ _ _ => rfl).trans (engine.effect.keeps (·.busy) fun _ => rfl)
    cases completion with
    | rests => exact ⟨idle, moved.trans launched⟩
    | delivers pending => exact absurd (h.arbiter.idle_quiet idle).2.1 pending

end Sys2Proof.Machine
end

section
/-! Who writes the flag, the events, the arbiter bits and the lines (spec/10_state.md R38 to R46, R51, R54, R55, R62). -/

namespace Sys2Proof.Machine

/-- Only the completion unit's: `EVT` written, `CFLAG` set, `BUSY` cleared, a pending event cleared (R41, R44, R45, R62). -/
def completionWrites (s t : State) : Prop :=
  t.evt ≠ s.evt ∨ (s.cflag = false ∧ t.cflag = true) ∨ (s.busy = true ∧ t.busy = false) ∨ (s.evtp ≠ .none ∧ t.evtp = .none)

/-- Only the host's and the sequencer's: `CFLAG` cleared, `BUSY` set, `ARMED`, `LOCK`, `TCNT`, `RES`, `REJ` touched (R37 to R39, R43, R46). -/
def commandWrites (s t : State) : Prop :=
  (s.cflag = true ∧ t.cflag = false) ∨ t.armed ≠ s.armed ∨ (s.busy = false ∧ t.busy = true) ∨ t.lock ≠ s.lock
    ∨ t.tcnt ≠ s.tcnt ∨ t.res ≠ s.res ∨ t.rej ≠ s.rej

/-- Only the engine's: an event raised, `CLAIMED` touched, the holding register filled, the lines moved (R45, R51, R54, R55). -/
def engineWrites (s t : State) : Prop :=
  (s.evtp = .none ∧ t.evtp ≠ .none) ∨ t.claimed ≠ s.claimed ∨ (s.rxv = false ∧ t.rxv = true) ∨ t.sclO ≠ s.sclO ∨ t.sdaO ≠ s.sdaO

theorem CommandEffect.writes {s t : State} (c : CommandEffect s t) : ¬ completionWrites s t ∧ ¬ engineWrites s t := by
  have evt : t.evt = s.evt := c.keeps (·.evt) fun _ => rfl
  have evtp : t.evtp = s.evtp := c.keeps (·.evtp) fun _ => rfl
  have claimed : t.claimed = s.claimed := c.keeps (·.claimed) fun _ => rfl
  have sclO : t.sclO = s.sclO := c.keeps (·.sclO) fun _ => rfl
  have sdaO : t.sdaO = s.sdaO := c.keeps (·.sdaO) fun _ => rfl
  obtain ⟨-, flag, outstanding, byte, -, -⟩ := c
  constructor
  · rintro (h | ⟨h, h'⟩ | ⟨h, h'⟩ | ⟨h, h'⟩) <;> simp_all
  · rintro (⟨h, h'⟩ | h | ⟨h, h'⟩ | h | h) <;> simp_all

theorem EngineEffect.writes {s t : State} (f : EngineEffect s t) : ¬ completionWrites s t ∧ ¬ commandWrites s t := by
  have same : (t.evt, t.cflag, t.busy, t.armed, t.lock, t.tcnt, t.res, t.rej)
      = (s.evt, s.cflag, s.busy, s.armed, s.lock, s.tcnt, s.res, s.rej) :=
    f.keeps (fun s => (s.evt, s.cflag, s.busy, s.armed, s.lock, s.tcnt, s.res, s.rej)) fun _ => rfl
  have event := f.event_stands
  clear f
  simp only [Prod.mk.injEq] at same
  constructor
  · rintro (h | ⟨h, h'⟩ | ⟨h, h'⟩ | ⟨h, h'⟩) <;> simp_all
  · rintro (⟨h, h'⟩ | h | ⟨h, h'⟩ | h | h | h | h) <;> simp_all

theorem moverStep_writes {s t : State} (ht : moverStep s = .next t) :
    ¬ completionWrites s t ∧ ¬ commandWrites s t ∧ ¬ engineWrites s t := by
  have moved : ∃ rxb ridx rxv, t = { s with rxb := rxb, ridx := ridx, rxv := rxv } ∧ (s.rxv = false → rxv = false) := by
    unfold moverStep at ht
    split at ht
    · obtain ⟨rxb, ridx, rfl⟩ := moveByte_same ht
      exact ⟨rxb, ridx, false, rfl, fun _ => rfl⟩
    · cases ht
      exact ⟨s.rxb, s.ridx, s.rxv, rfl, id⟩
  obtain ⟨rxb, ridx, rxv, rfl, byte⟩ := moved
  exact ⟨by simp [completionWrites], by simp [commandWrites], by simpa [engineWrites] using byte⟩

theorem cbStep_writes (s : State) : ¬ commandWrites s (cbStep s) ∧ ¬ engineWrites s (cbStep s) := by
  unfold cbStep
  split <;> simp [commandWrites, engineWrites]

/-- The transaction primitives (R231). -/
def isPrimitive (i : Instr) : Prop := ∃ x y, i = .wreg x y ∨ i = .wblk x y ∨ i = .rblk x y

/-- What one command does to the flag, the arbiter bits, the holding register's mark and the budget; `FRST` and the primitives reset the flag,
accepted submissions and primitives launch, multi-step commands close the port (R38 to R42, R54). -/
structure CommandFlags (i : Instr) (s t : State) : Prop where
  cflag : t.cflag ≠ s.cflag → t.cflag = false ∧ (i = .frst ∨ isPrimitive i)
  armed : t.armed = true → s.armed = false → i = .frst ∨ isPrimitive i
  busy : t.busy ≠ s.busy → t.busy = true ∧ t.armed = false ∧ ((∃ a n, i = .submitW a n ∨ i = .submitWN a n ∨ i = .submitR a n)
      ∨ isPrimitive i)
  lock : t.lock ≠ s.lock → t.lock = true ∧ ((∃ b, i = .wait b) ∨ isPrimitive i)
  rxv : t.rxv ≠ s.rxv → t.rxv = false ∧ ∃ a n, i = .submitR a n
  tbudget : t.tbudget ≠ s.tbudget → ∃ b, i = .stmo b

/-- A command that leaves them all alone. -/
theorem CommandFlags.of_kept {i : Instr} {s t : State} (same : (t.cflag, t.armed, t.busy, t.lock, t.rxv, t.tbudget)
    = (s.cflag, s.armed, s.busy, s.lock, s.rxv, s.tbudget)) : CommandFlags i s t := by
  simp only [Prod.mk.injEq] at same
  constructor <;> simp_all

theorem submit_flags {i : Instr} {d n : Bool} {a : BusAddr} {l : Byte} {s : State}
    (hi : submitCheck d n l s = .none → (d = false ∧ ∃ a n, i = .submitW a n ∨ i = .submitWN a n) ∨ ∃ a n, i = .submitR a n) :
    CommandFlags i s (submit d n a l s) := by
  rcases submit_cases d n a l s with ⟨accepted, e⟩ | ⟨-, e⟩ <;> rw [e]
  · rcases hi accepted with ⟨rfl, a', n', hi⟩ | ⟨a', n', hi⟩
    · constructor <;> simp
      exact fun _ => .inl ⟨a', n', hi.elim .inl (.inr ∘ .inl)⟩
    · constructor <;> simp [hi]
      cases d <;> simp
  · exact .of_kept rfl

theorem prim_flags {i : Instr} {ns : Bool} {n l rlen : Byte} {m : Memory} {q : SeqPoint} {s : State}
    (hi : isPrimitive i) (hl : s.lock = false) :
    CommandFlags i s (primLaunch false ns n l m q { s with rlen := rlen }) := by
  rcases primLaunch_cases false ns n l m q { s with rlen := rlen } with ⟨-, -, e⟩ | ⟨-, -, e⟩ | ⟨-, e⟩ <;> rw [e] <;>
    constructor <;> simp [hl, hi, flagReset]

theorem exec_flags {i : Instr} {s t : State} (hl : s.lock = false) (ht : exec i s = .next t) : CommandFlags i s t := by
  cases i with
  | init scl sda f =>
    cases ht
    split
    · exact .of_kept rfl
    · split <;> exact .of_kept rfl
  | frst => cases ht; constructor <;> simp [flagReset]
  | submitW a n => cases ht; exact submit_flags fun _ => .inl ⟨rfl, a, n, .inl rfl⟩
  | submitWN a n => cases ht; exact submit_flags fun _ => .inl ⟨rfl, a, n, .inr rfl⟩
  | submitR a n => cases ht; exact submit_flags fun _ => .inr ⟨a, n, rfl⟩
  | submitRN a n =>
    cases ht
    exact submit_flags fun accepted => by
      obtain ⟨-, -, -, form, -⟩ := submitCheck_none.1 accepted
      exact absurd ⟨rfl, rfl⟩ form
  | wait b => cases ht; split <;> constructor <;> simp +contextual
  | wreg r v => cases ht; exact prim_flags (rlen := s.rlen) ⟨r, v, .inl rfl⟩ hl
  | wblk r n => cases ht; exact prim_flags (rlen := s.rlen) ⟨r, n, .inr (.inl rfl)⟩ hl
  | rblk r n => cases ht; exact prim_flags (rlen := n) ⟨r, n, .inr (.inr rfl)⟩ hl
  | stb i b => cases ht; split <;> exact .of_kept rfl
  | ldb i => cases ht; split <;> exact .of_kept rfl
  | stmo b => cases ht; constructor <;> simp +contextual
  | rdst sel => cases ht; split <;> exact .of_kept rfl

/-- Settles O49: agent by agent what it cannot write, and command by command. -/
theorem flagsHaveTheStatedWriters : Obligations.FlagsHaveTheStatedWriters := by
  refine ⟨fun m s t hm he ht => ?_, fun i s t hl ht => ?_⟩
  · show (completionWrites s t → m = .cb) ∧ (commandWrites s t → m = .host ∨ m = .seq) ∧
      (engineWrites s t → ∃ sclT sdaT, m = .fe sclT sdaT)
    cases m with
    | reset => cases hm
    | edge e => exact absurd rfl (he e)
    | host =>
      obtain ⟨notCompletion, notEngine⟩ := (hostStep_effect ht).writes
      exact ⟨fun w => absurd w notCompletion, fun _ => .inl rfl, fun w => absurd w notEngine⟩
    | seq =>
      obtain ⟨notCompletion, notEngine⟩ := (seqAgentStep_effect ht).writes
      exact ⟨fun w => absurd w notCompletion, fun _ => .inr rfl, fun w => absurd w notEngine⟩
    | fe sclT sdaT =>
      obtain ⟨notCompletion, notCommand⟩ := (feStep_effect ht).writes
      exact ⟨fun w => absurd w notCompletion, fun w => absurd w notCommand, fun _ => ⟨sclT, sdaT, rfl⟩⟩
    | mover =>
      obtain ⟨notCompletion, notCommand, notEngine⟩ := moverStep_writes ht
      exact ⟨fun w => absurd w notCompletion, fun w => absurd w notCommand, fun w => absurd w notEngine⟩
    | cb =>
      cases ht
      obtain ⟨notCommand, notEngine⟩ := cbStep_writes s
      exact ⟨fun _ => rfl, fun w => absurd w notCommand, fun w => absurd w notEngine⟩
  · have c := exec_effect ht
    obtain ⟨cflag, armed, busy, lock, rxv, tbudget⟩ := exec_flags hl ht
    exact ⟨c.keeps (·.evt) fun _ => rfl, c.keeps (·.evtp) fun _ => rfl, c.keeps (·.claimed) fun _ => rfl,
      c.keeps (·.sclO) fun _ => rfl, c.keeps (·.sdaO) fun _ => rfl, c.keeps (·.rxb) fun _ => rfl,
      cflag, armed, busy, lock, rxv, tbudget⟩

end Sys2Proof.Machine
end

section
/-! Buffers as data (spec/20_memory.md R82, R84; log entry 3). -/

namespace Sys2Proof.Machine

theorem Memory.get_first (i : Nat) (b : Byte) (m : Memory) : Memory.get ((i, b) :: m) i = some b := if_pos rfl

/-- Below its first index a canonical buffer holds nothing. -/
theorem Memory.get_of_lt {m : Memory} {j : Nat} (below : ∀ c ∈ m, j < c.1) : Memory.get m j = none := by
  induction m with
  | nil => rfl
  | cons c m ih =>
    obtain ⟨i, b⟩ := c
    obtain ⟨first, later⟩ := List.forall_mem_cons.1 below
    rw [Memory.get, if_neg (Nat.ne_of_gt first)]
    exact ih later

/-- The first index of a canonical buffer is the least one written. -/
theorem Memory.first_le {m : Memory} {i j : Nat} {b e : Byte} (first : ∀ c ∈ m, i < c.1)
    (written : Memory.get ((i, b) :: m) j = some e) : i ≤ j := by
  by_contra lt
  have lt : j < i := Nat.lt_of_not_le lt
  rw [Memory.get_of_lt (List.forall_mem_cons.2 ⟨lt, fun c hc => lt.trans (first c hc)⟩)] at written
  cases written

/-- A canonical buffer is determined by its bytes, written and unwritten. -/
theorem Memory.eq_of_get_eq {m n : Memory} (hm : Memory.wf m) (hn : Memory.wf n) (same : ∀ j, Memory.get m j = Memory.get n j) :
    m = n := by
  induction m generalizing n with
  | nil =>
    cases n with
    | nil => rfl
    | cons d n => simpa [Memory.get] using same d.1
  | cons c m ih =>
    cases n with
    | nil => simpa [Memory.get] using same c.1
    | cons d n =>
      obtain ⟨i, b⟩ := c
      obtain ⟨k, e⟩ := d
      obtain ⟨firstM, tailM⟩ := List.pairwise_cons.1 hm
      obtain ⟨firstN, tailN⟩ := List.pairwise_cons.1 hn
      have index : i = k := le_antisymm (Memory.first_le firstM ((same k).trans (Memory.get_first k e n)))
        (Memory.first_le firstN ((same i).symm.trans (Memory.get_first i b m)))
      subst index
      have byte : b = e := by simpa [Memory.get] using same i
      have later : ∀ j, Memory.get m j = Memory.get n j := fun j => by
        by_cases hj : i = j
        · rw [← hj, Memory.get_of_lt firstM, Memory.get_of_lt firstN]
        · simpa [Memory.get, hj] using same j
      rw [byte, ih tailM tailN later]

/-- A second write to a byte hides the first, in canonical form or not. -/
theorem Memory.put_put_same (m : Memory) (j : Nat) (b c : Byte) : Memory.put (Memory.put m j b) j c = Memory.put m j c := by
  induction m with
  | nil => simp [Memory.put]
  | cons d m ih =>
    obtain ⟨i, e⟩ := d
    rcases Nat.lt_trichotomy j i with lt | rfl | gt
    · simp [Memory.put, lt]
    · simp [Memory.put]
    · simp [Memory.put, Nat.lt_asymm gt, Nat.ne_of_gt gt, ih]

/-- Writes to different bytes of a canonical buffer commute: both orders give a canonical buffer with the same bytes. -/
theorem Memory.put_comm {m : Memory} (hm : Memory.wf m) {j k : Nat} (hjk : j ≠ k) (b c : Byte) :
    Memory.put (Memory.put m j b) k c = Memory.put (Memory.put m k c) j b := by
  refine Memory.eq_of_get_eq (Memory.put_wf k c (Memory.put_wf j b hm)) (Memory.put_wf j b (Memory.put_wf k c hm)) fun i => ?_
  simp only [Memory.get_put]
  by_cases hk : i = k
  · simp [hk, hjk.symm]
  · simp [hk]

/-- Settles O60: the canonical form gives extensionality, from which the order of writes to different bytes follows. -/
theorem equalBuffersAreEqualData : Obligations.EqualBuffersAreEqualData :=
  ⟨fun _ _ => Memory.eq_of_get_eq, Memory.put_put_same, fun _ _ _ b c hm hjk => Memory.put_comm hm hjk b c⟩

end Sys2Proof.Machine
end

section
/-! The bus monitor on the levels of one symbol (spec/20_memory.md R86 to R88; spec/42_wire_protocol.md R173, R178). -/

namespace Sys2Proof.Machine

/-- The levels of a symbol that carries a bit (R173, R176). -/
def bitLevels (b : Bool) : List (Bool × Bool) := [(false, b), (true, b), (true, b), (false, b)]

/-- The levels of START, or of repeated START when the bus is claimed (R173). -/
def startLevels (claimed : Bool) : List (Bool × Bool) :=
  if claimed then [(false, true), (true, true), (true, false), (false, false)] else [(true, true), (true, false), (false, false)]

/-- The levels of STOP (R173). -/
def stopLevels : List (Bool × Bool) := [(false, false), (true, false), (true, true), (true, true)]

/-- While SCL is low the monitor has nothing in progress: what it reports next does not depend on how it got there. -/
theorem monitor_of_low (sda marked : Bool) (levels : List (Bool × Bool)) :
    monitor (false, sda) marked levels = monitor (false, false) false levels := by
  cases levels <;> rfl

theorem monitor_bitLevels (b sda marked : Bool) (later : List (Bool × Bool)) :
    monitor (false, sda) marked (bitLevels b ++ later) = .bit b :: monitor (false, false) false later := by
  cases b <;> exact congrArg (_ :: ·) (monitor_of_low ..)

theorem monitor_bits (bits : List Bool) (sda marked : Bool) (later : List (Bool × Bool)) :
    monitor (false, sda) marked (bits.flatMap bitLevels ++ later) = bits.map .bit ++ monitor (false, false) false later := by
  induction bits generalizing sda marked with
  | nil => exact monitor_of_low ..
  | cons b bits ih =>
    rw [List.flatMap_cons, List.append_assoc, monitor_bitLevels, ih]
    rfl

theorem monitor_startLevels (claimed : Bool) (later : List (Bool × Bool)) :
    monitor (!claimed, true) true (startLevels claimed ++ later) = .start :: monitor (false, false) false later := by
  cases claimed <;> rfl

/-- The bits of a byte and of its answer (R87, R150). -/
def byteBits (b : Byte) (nack : Bool) : List Bool := msbFirst b ++ [nack]

/-- The levels of a byte with its answer (R87, R150). -/
def byteLevels (b : Byte) (nack : Bool) : List (Bool × Bool) := (byteBits b nack).flatMap bitLevels

theorem monitor_byteLevels (b : Byte) (nack sda marked : Bool) (later : List (Bool × Bool)) :
    monitor (false, sda) marked (byteLevels b nack ++ later) = byteSymbols b nack ++ monitor (false, false) false later :=
  monitor_bits ..

/-- The levels at the end of a write frame: STOP, or the bus held (R152, R173). -/
def endLevels (held : Bool) : List (Bool × Bool) := if held then [(false, true)] else stopLevels

theorem monitor_endLevels (held sda marked : Bool) : monitor (false, sda) marked (endLevels held) = if held then [] else [.stop] := by
  cases held <;> rfl

/-- The levels of a write frame from its first data byte to its end: the bytes with their answers up to the first NACK, then STOP or hold (R152). -/
def dataLevels (nostop : Bool) : List (Byte × Bool) → List (Bool × Bool)
  | []                 => endLevels nostop
  | (b, true) :: _     => byteLevels b true ++ endLevels false
  | (b, false) :: rest => byteLevels b false ++ dataLevels nostop rest

theorem monitor_dataLevels (nostop sda marked : Bool) (sent : List (Byte × Bool)) :
    monitor (false, sda) marked (dataLevels nostop sent) =
      dataSymbols sent ++ if true ∉ sent.map Prod.snd ∧ nostop = true then [] else [.stop] := by
  induction sent generalizing sda marked with
  | nil => simp [dataLevels, dataSymbols, monitor_endLevels]
  | cons byte rest ih =>
    obtain ⟨b, nack⟩ := byte
    cases nack
    · simp [dataLevels, dataSymbols, monitor_byteLevels, ih]
    · simp [dataLevels, dataSymbols, monitor_byteLevels, monitor_endLevels]

end Sys2Proof.Machine
end

section
/-! The engine over several phases: from the start of a symbol to its end, with the levels on the bus (spec/42_wire_protocol.md R172 to R177). -/

namespace Sys2Proof.Machine

/-! ### Segments of a run -/

/-- The moves go through from `s` to `t` and leave these levels on the bus, move by move. -/
structure Segment (moves : List Move) (s : State) (levels : List (Bool × Bool)) (t : State) : Prop where
  runs : runMoves moves s = .next t
  shows : busLevels moves s = levels

theorem Segment.nil (s : State) : Segment [] s [] s := ⟨rfl, rfl⟩

/-- A first step before the rest. -/
theorem Segment.cons {m : Move} {moves : List Move} {s u t : State} {now : Bool × Bool} {levels : List (Bool × Bool)}
    (hu : perform m s = .next u) (hl : (level u.sclO (targetDrivers m).1, level u.sdaO (targetDrivers m).2) = now)
    (rest : Segment moves u levels t) : Segment (m :: moves) s (now :: levels) t := by
  constructor
  · rw [runMoves, hu, chain_next, rest.runs]
  · rw [busLevels, hu, ← hl, ← rest.shows]

theorem Segment.append {ms ns : List Move} {s u t : State} {ks ls : List (Bool × Bool)} (first : Segment ms s ks u)
    (second : Segment ns u ls t) : Segment (ms ++ ns) s (ks ++ ls) t := by
  induction ms generalizing s ks with
  | nil =>
    obtain ⟨runs, rfl⟩ := first
    cases runs
    exact second
  | cons m ms ih =>
    obtain ⟨runs, rfl⟩ := first
    obtain ⟨v, hv, runs⟩ := chain_eq_next runs
    simp only [busLevels, hv]
    exact .cons hv rfl (ih ⟨runs, rfl⟩)

/-! ### From symbol to symbol in a write frame -/

/-- The first bit of the address byte, `ADDR` then `DIR`, after START, with SCL and SDA low (R88, R150). -/
def addressBegun (s : State) : State :=
  toSym .txa { s with sclO := false, sdaO := false, qcnt := phaseCycles s, shift := s.addr ++ bit s.dir, bitc := 7 }

/-- The ACK slot that follows a byte's last bit (R150). -/
def answerSlot : Sym → Sym
  | .txa => .acka
  | _    => .ackd

theorem symbolDone_of_start {s : State} (hs : s.sym = .s ∨ s.sym = .sr) :
    symbolDone s = .next (toSym .txa { s with shift := s.addr ++ bit s.dir, bitc := 7 }) := by
  rcases hs with hs | hs <;> simp [symbolDone, hs]

theorem symbolDone_of_sentBit {s : State} (hs : s.sym = .txa ∨ s.sym = .txd) :
    symbolDone s = .next (if s.bitc = 0 then toSym (answerSlot s.sym) s else toSym s.sym { s with bitc := s.bitc - 1 }) := by
  rcases hs with hs | hs <;> simp only [symbolDone, hs, answerSlot] <;> split <;> rfl

/-- A byte refused, the address byte or one of the data: STOP with error (R151, R152). -/
theorem symbolDone_of_refused {s : State} (hs : s.sym = .acka ∨ s.sym = .ackd) (nack : s.samp = true) :
    ∃ e, symbolDone s = .next (toSym .p { s with errc := e }) := by
  rcases hs with hs | hs
  · exact ⟨.addressNack, by simp only [symbolDone, hs, nack, if_true]⟩
  · exact ⟨.dataNack, by simp only [symbolDone, hs, nack, if_true]⟩

/-- The address byte of a write acknowledged: the first data byte (R151). -/
theorem symbolDone_of_addressed {s : State} (hs : s.sym = .acka) (ack : s.samp = false) (write : s.dir = false) :
    symbolDone s = loadByte 0 s := by
  simp [symbolDone, hs, ack, write]

/-- A data byte acknowledged that is not the last: the next one (R152). -/
theorem symbolDone_of_more {s : State} (hs : s.sym = .ackd) (ack : s.samp = false) (more : s.idx.toNat + 1 < s.len.toNat) :
    symbolDone s = loadByte (s.idx + 1) s := by
  simp [symbolDone, hs, ack, more]

/-- The last data byte acknowledged: STOP or hold (R152). -/
theorem symbolDone_of_final {s : State} (hs : s.sym = .ackd) (ack : s.samp = false) (final : ¬ s.idx.toNat + 1 < s.len.toNat) :
    symbolDone s = .next (toSym (if s.nostop = true then .h else .p) s) := by
  cases hn : s.nostop <;> simp [symbolDone, hs, ack, final, hn]

/-- A byte of `TXB` that has been written is what the engine loads (R151, R152). -/
theorem loadByte_of_get {i b : Byte} {s : State} (inside : i.toNat < s.par.txCap) (stored : Memory.get s.txb i.toNat = some b) :
    loadByte i s = .next (toSym .txd { s with idx := i, shift := b, bitc := 7 }) := by
  obtain ⟨value, undrawn⟩ := Memory.read_of_get s.draws stored
  rw [loadByte_next inside, value, undrawn]

theorem symbolDone_of_p {s : State} (hs : s.sym = .p) : symbolDone s = .next (stopDone s) := by
  simp [symbolDone, hs]

theorem symbolDone_of_h {s : State} (hs : s.sym = .h) : symbolDone s = .next (raiseEvent .done .held { s with claimed := true }) := by
  simp [symbolDone, hs]

/-! ### The lines at the end of a symbol -/

theorem stopDone_lines (s : State) : (stopDone s).sclO = s.sclO ∧ (stopDone s).sdaO = s.sdaO := by
  rcases stopDone_cases s with ⟨-, e⟩ | ⟨-, -, e⟩ | ⟨-, -, -, e⟩ <;> rw [e] <;> exact ⟨rfl, rfl⟩

theorem loadByte_lines {i : Byte} {s t : State} (ht : loadByte i s = .next t) : t.sclO = s.sclO ∧ t.sdaO = s.sdaO := by
  unfold loadByte at ht
  split at ht <;> cases ht
  exact ⟨rfl, rfl⟩

theorem byteReceived_lines (s : State) : (byteReceived s).sclO = s.sclO ∧ (byteReceived s).sdaO = s.sdaO := by
  unfold byteReceived
  split <;> exact ⟨rfl, rfl⟩

/-- The end of a symbol leaves the lines as they are (R150 to R158). -/
theorem symbolDone_lines {s t : State} (ht : symbolDone s = .next t) : t.sclO = s.sclO ∧ t.sdaO = s.sdaO := by
  unfold symbolDone at ht
  split at ht
  case h_1 | h_2 | h_10 => cases ht; exact ⟨rfl, rfl⟩
  case h_3 | h_5 => split at ht <;> cases ht <;> exact ⟨rfl, rfl⟩
  case h_4 =>
    split at ht
    · cases ht; exact ⟨rfl, rfl⟩
    · split at ht
      · exact loadByte_lines ht
      · cases ht; exact ⟨rfl, rfl⟩
  case h_6 =>
    split at ht
    · cases ht; exact ⟨rfl, rfl⟩
    · split at ht
      · exact loadByte_lines ht
      · split at ht <;> cases ht <;> exact ⟨rfl, rfl⟩
  case h_7 =>
    split at ht <;> cases ht
    · exact byteReceived_lines _
    · exact ⟨rfl, rfl⟩
  case h_8 =>
    split at ht
    · cases ht; exact ⟨rfl, rfl⟩
    · split at ht <;> cases ht <;> exact ⟨rfl, rfl⟩
  case h_9 => cases ht; exact stopDone_lines s

/-! ### One phase -/

/-- `s` in phase `phi` of its symbol, with these lines out, this sample taken and the phase counter loaded (R172, R177, R362). -/
def inPhase (phi : Fin 4) (samp : Bool) (lines : Bool × Bool) (s : State) : State :=
  { s with phi := phi, samp := samp, sclO := lines.1, sdaO := lines.2, qcnt := phaseCycles s }

/-- The sample a phase leaves: taken anew in phase 1 of a symbol that carries a bit (R176, R177). -/
def sampleAfter (s : State) (sdaI : Bool) : Bool := if samplesSda s.sym s.phi = true then sdaI else s.samp

theorem sample_eq (sdaI : Bool) (s : State) : sample sdaI s = { s with samp := sampleAfter s sdaI } := by
  unfold sample sampleAfter
  split <;> rfl

/-- No sample is taken in the other phases, nor in the symbols that carry no bit. -/
theorem sampleAfter_of_kept {s : State} (h : s.phi ≠ 1 ∨ samplesSda s.sym 1 = false) (sdaI : Bool) : sampleAfter s sdaI = s.samp := by
  refine if_neg ?_
  cases hy : s.sym <;> simp_all [samplesSda]

section Phase

variable {s : State} {sda : Bool} {lines : Bool × Bool} (run : s.fes = .run) (out : currentLines s = some lines)
  (clean : phaseBusError s lines.1 (level lines.2 sda) = false)
include run out clean

/-- A phase with SCL released by the target and no error: on to the next phase, or after the last one to the end of the symbol (R150, R172). -/
theorem perform_phase : perform (.fe true sda) s =
    if isLastPhase s = true then symbolDone (inPhase s.phi (sampleAfter s (level lines.2 sda)) lines s)
    else .next (inPhase (s.phi + 1) (sampleAfter s (level lines.2 sda)) lines s) := by
  have clean : phaseBusError (drive lines s) (level lines.1 true) (level lines.2 sda) = false := by
    rw [level, Bool.and_true]
    exact clean
  simp only [perform, feStep, run, runStep_cases out, Bool.not_true, Bool.and_false, performPhase, clean, sample_eq, Bool.false_eq_true, if_false]
  rfl

/-- A phase that is not its symbol's last, before the rest. -/
theorem phase_segment {moves : List Move} {levels : List (Bool × Bool)} {t : State} {samp : Bool} (more : isLastPhase s = false)
    (sampled : sampleAfter s (level lines.2 sda) = samp) (rest : Segment moves (inPhase (s.phi + 1) samp lines s) levels t) :
    Segment (.fe true sda :: moves) s ((lines.1, level lines.2 sda) :: levels) t :=
  .cons ((perform_phase run out clean).trans (if_neg (by simp [more]))) (congrArg (·, _) (Bool.and_true _)) (sampled ▸ rest)

/-- A symbol's last phase. -/
theorem lastPhase_segment {t : State} {samp : Bool} (last : isLastPhase s = true) (sampled : sampleAfter s (level lines.2 sda) = samp)
    (ht : symbolDone (inPhase s.phi samp lines s) = .next t) : Segment [.fe true sda] s [(lines.1, level lines.2 sda)] t := by
  obtain ⟨scl, sda⟩ := symbolDone_lines ht
  refine .cons (((perform_phase run out clean).trans (if_pos last)).trans (sampled ▸ ht)) ?_ (.nil t)
  rw [scl, sda]
  exact congrArg (·, _) (Bool.and_true _)

end Phase

/-! ### One symbol -/

/-- A symbol of four phases, from its start to its end, with no error in any of them. -/
theorem fourPhases_segment {s t : State} {sda : Bool} (lines : Fin 4 → Bool × Bool) (run : s.fes = .run) (start : s.phi = 0)
    (four : s.sym.phases = 4) (out : ∀ phi, phaseLines s.sym (sentBit s) phi = some (lines phi))
    (clean : ∀ phi, phaseBusError { s with phi := phi } (lines phi).1 (level (lines phi).2 sda) = false)
    (ht : symbolDone (inPhase 3 (sampleAfter { s with phi := 1 } (level (lines 1).2 sda)) (lines 3) s) = .next t) :
    Segment (List.replicate 4 (.fe true sda)) s (([0, 1, 2, 3] : List (Fin 4)).map fun phi => ((lines phi).1, level (lines phi).2 sda)) t := by
  have last : ∀ phi : Fin 4, (phi.val + 1 == s.sym.phases) = (phi == 3) := by
    rw [four]
    decide
  have kept {u : State} (h : u.phi ≠ 1) (sdaI : Bool) := sampleAfter_of_kept (.inl h) sdaI
  generalize sampled : sampleAfter { s with phi := 1 } (level (lines 1).2 sda) = samp at ht
  have phases := phase_segment (s := { s with phi := 0 }) run (out 0) (clean 0) (last 0) (kept zero_ne_one _) <|
    phase_segment (s := inPhase 1 s.samp (lines 0) s) run (out 1) (clean 1) (last 1) sampled <|
    phase_segment (s := inPhase 2 samp (lines 1) s) run (out 2) (clean 2) (last 2) (kept (by simp [inPhase]) _) <|
    lastPhase_segment (s := inPhase 3 samp (lines 2) s) run (out 3) (clean 3) (last 3) (kept (by simp [inPhase]) _) ht
  have atStart : s = { s with phi := 0 } := by rw [← start]
  exact (congrArg (Segment _ · _ t) atStart).mpr phases

/-- A symbol that carries a bit, unless the master sends 1 and finds SDA low (R176, R177, R184). -/
theorem bit_segment {s t : State} {sda b wire : Bool} (run : s.fes = .run) (start : s.phi = 0) (carries : samplesSda s.sym 1 = true)
    (sent : sentBit s = b) (result : level b sda = wire) (clean : phaseBusError { s with phi := 1 } true wire = false)
    (ht : symbolDone (inPhase 3 wire (false, b) s) = .next t) : Segment (heldBit sda) s (bitLevels wire) t := by
  subst result
  refine fourPhases_segment (fun phi => (phi == 1 || phi == 2, b)) run start ?_ (fun phi => ?_) (fun phi => ?_) ?_
  · cases hy : s.sym <;> simp_all [samplesSda, Sym.phases]
  · rw [sent]
    cases hy : s.sym <;> simp_all [samplesSda] <;> fin_cases phi <;> rfl
  · by_cases h1 : phi = 1
    · rw [h1]
      exact clean
    · cases hy : s.sym <;> simp_all [samplesSda, phaseBusError]
  · rw [sampleAfter, if_pos carries]
    exact ht

/-- START on an idle bus (R150, R173). -/
theorem freshStart_segment {s : State} (run : s.fes = .run) (start : s.phi = 0) (hs : s.sym = .s) :
    Segment (quiet 3) s (startLevels false) (addressBegun s) := by
  have out (phi : Fin 4) : phaseLines s.sym (sentBit s) phi = phaseLines .s (sentBit s) phi := by rw [hs]
  have clean (phi : Fin 4) (sclI sdaI : Bool) (high : phi = 0 → (sclI && sdaI) = true) :
      phaseBusError { s with phi := phi } sclI sdaI = false := by
    by_cases first : phi = 0 <;> simp_all [phaseBusError]
  have last : ∀ phi : Fin 4, (phi.val + 1 == s.sym.phases) = (phi == 2) := by
    rw [hs]
    decide
  have kept (phi : Fin 4) (samp : Bool) (lines : Bool × Bool) (sdaI : Bool) : sampleAfter (inPhase phi samp lines s) sdaI = samp :=
    sampleAfter_of_kept (.inr (by rw [inPhase, hs]; rfl)) sdaI
  have phases := phase_segment (s := { s with phi := 0 }) (sda := true) (lines := (true, true)) run (out 0) (clean 0 true true fun _ => rfl)
      (last 0) (sampleAfter_of_kept (.inl zero_ne_one) _) <|
    phase_segment (s := inPhase 1 s.samp (true, true) s) (sda := true) (lines := (true, false)) run (out 1) (clean 1 true false (by simp))
      (last 1) (kept ..) <|
    lastPhase_segment (s := inPhase 2 s.samp (true, false) s) (sda := true) (lines := (false, false)) run (out 2)
      (clean 2 false false (by simp)) (last 2) (kept ..) (symbolDone_of_start (.inl hs))
  have atStart : s = { s with phi := 0 } := by rw [← start]
  exact (congrArg (Segment _ · _ _) atStart).mpr phases

/-- Repeated START (R150, R173). -/
theorem repeatedStart_segment {s : State} (run : s.fes = .run) (start : s.phi = 0) (hs : s.sym = .sr) :
    Segment (quiet 4) s (startLevels true) (addressBegun s) := by
  refine fourPhases_segment ![(false, true), (true, true), (true, false), (false, false)] run start (by rw [hs]; rfl) (fun phi => ?_)
    (fun phi => ?_) ?_
  · rw [hs]
    fin_cases phi <;> rfl
  · fin_cases phi <;> simp [phaseBusError, hs, level]
  · rw [sampleAfter_of_kept (.inr (by rw [hs]; rfl))]
    exact symbolDone_of_start (.inr hs)

theorem stop_segment {s : State} (run : s.fes = .run) (start : s.phi = 0) (hs : s.sym = .p) :
    Segment (quiet 4) s stopLevels (stopDone (inPhase 3 s.samp (true, true) s)) := by
  refine fourPhases_segment ![(false, false), (true, false), (true, true), (true, true)] run start (by rw [hs]; rfl) (fun phi => ?_)
    (fun phi => ?_) ?_
  · rw [hs]
    fin_cases phi <;> rfl
  · fin_cases phi <;> simp [phaseBusError, hs, level]
  · rw [sampleAfter_of_kept (.inr (by rw [hs]; rfl))]
    exact symbolDone_of_p hs

theorem hold_segment {s : State} (run : s.fes = .run) (start : s.phi = 0) (hs : s.sym = .h) :
    Segment (quiet 1) s [(false, true)] (raiseEvent .done .held { inPhase s.phi s.samp (false, true) s with claimed := true }) :=
  lastPhase_segment (lines := (false, true)) (sda := true) run (by rw [currentLines, hs, start]; rfl) (by simp [phaseBusError, hs])
    (by rw [isLastPhase, hs, start]; rfl) (sampleAfter_of_kept (.inl (by simp [start])) _) (symbolDone_of_h hs)

end Sys2Proof.Machine
end

section
/-! A write frame on the bus: byte by byte up to the first NACK, then STOP or hold (spec/20_memory.md R86 to R88; spec/41_bus_transport.md R150 to
R152, R160). -/

namespace Sys2Proof.Machine

/-! ### A byte and its answer -/

/-- The ACK slot of the byte in progress: nothing is sent, and the target's answer is sampled (R177). -/
theorem ack_segment {s t : State} {nack : Bool} (run : s.fes = .run) (start : s.phi = 0) (hs : s.sym = .acka ∨ s.sym = .ackd)
    (ht : symbolDone (inPhase 3 nack (false, true) s) = .next t) : Segment (heldBit nack) s (bitLevels nack) t := by
  refine bit_segment run start ?_ ?_ (Bool.true_and nack) ?_ ht
  · rcases hs with hs | hs <;> rw [hs] <;> rfl
  · rcases hs with hs | hs <;> rw [sentBit, hs]
  · rcases hs with hs | hs <;> simp [phaseBusError, hs]

/-- A bit the target leaves alone is no error (R184). -/
theorem phaseBusError_of_undisturbed {s : State} (sends : s.sym = .txa ∨ s.sym = .txd) (sclI : Bool) :
    phaseBusError s sclI (sentBit s) = false := by
  rcases sends with hs | hs <;> simp [phaseBusError, hs]

/-- One bit of the byte in progress, the target leaving the lines alone: on to the next bit, or to the ACK slot (R87, R150, R176). -/
theorem sentBit_segment {s : State} {b : Bool} (run : s.fes = .run) (start : s.phi = 0) (sends : s.sym = .txa ∨ s.sym = .txd)
    (next : s.shift.getLsbD s.bitc.toNat = b) :
    Segment (quiet 4) s (bitLevels b) (if s.bitc = 0 then toSym (answerSlot s.sym) (inPhase 3 b (false, b) s)
      else toSym s.sym { inPhase 3 b (false, b) s with bitc := s.bitc - 1 }) := by
  have sent : sentBit s = b := by rcases sends with hs | hs <;> rw [sentBit, hs, ← next]
  refine bit_segment run start ?_ sent (Bool.and_true b) ?_ (symbolDone_of_sentBit sends)
  · rcases sends with hs | hs <;> rw [hs] <;> rfl
  · rw [← sent]
    exact phaseBusError_of_undisturbed (s := { s with phi := 1 }) sends true

/-- Bits `n` down to 0 of a byte (R87). -/
def bitsDownFrom (b : Byte) : Nat → List Bool
  | 0     => [b.getLsbD 0]
  | n + 1 => b.getLsbD (n + 1) :: bitsDownFrom b n

theorem bitsDownFrom_seven (b : Byte) : bitsDownFrom b 7 = msbFirst b := rfl

/-- The ACK slot over, with this answer sampled, of the byte in progress in `s`. -/
def answered (nack : Bool) (s : State) : State :=
  { inPhase 3 nack (false, true) s with sym := answerSlot s.sym, bitc := 0 }

/-- The rest of a byte from bit `n` on, with its answer. -/
theorem bitsAndAnswer_segment {s t : State} {nack : Bool} {n : Nat} (run : s.fes = .run) (start : s.phi = 0)
    (sends : s.sym = .txa ∨ s.sym = .txd) (position : s.bitc.toNat = n) (ht : symbolDone (answered nack s) = .next t) :
    Segment (quiet (4 * (n + 1)) ++ heldBit nack) s ((bitsDownFrom s.shift n ++ [nack]).flatMap bitLevels) t := by
  induction n generalizing s with
  | zero =>
    have last : s.bitc = 0 := BitVec.eq_of_toNat_eq position
    have slot : answerSlot s.sym = .acka ∨ answerSlot s.sym = .ackd := by rcases sends with hs | hs <;> simp [hs, answerSlot]
    have bit0 := sentBit_segment run start sends (congrArg s.shift.getLsbD position)
    rw [if_pos last] at bit0
    rw [answered, ← last] at ht
    exact bit0.append (ack_segment run rfl slot ht)
  | succ n ih =>
    have more : s.bitc ≠ 0 := fun h => by simp [h] at position
    have bit := sentBit_segment run start sends (congrArg s.shift.getLsbD position)
    rw [if_neg more] at bit
    have down : (s.bitc - 1).toNat = n := by bv_omega
    exact bit.append (ih run rfl sends down ht)

/-- The engine stands at the first bit of a byte it sends: the address byte, or a byte of the data (R150). -/
structure SendsByte (y : Sym) (s : State) : Prop where
  run : s.fes = .run
  start : s.phi = 0
  sym : s.sym = y
  full : s.bitc = 7

theorem addressBegun_begins {s : State} (run : s.fes = .run) : SendsByte .txa (addressBegun s) := ⟨run, rfl, rfl, rfl⟩

@[simp] theorem addressBegun_nostop (s : State) : (addressBegun s).nostop = s.nostop := rfl

/-- The address byte of a write frame (R88). -/
theorem addressBegun_shift {s : State} (write : s.dir = false) : (addressBegun s).shift = s.addr ++ (0 : BitVec 1) := by
  show s.addr ++ bit s.dir = s.addr ++ (0 : BitVec 1)
  rw [write]
  rfl

section Byte

variable {y : Sym} {s : State} (begins : SendsByte y s) (sends : y = .txa ∨ y = .txd)
include begins sends

theorem sentByte_segment {nack : Bool} {t : State} (ht : symbolDone (answered nack s) = .next t) :
    Segment (sentByteMoves nack) s (byteLevels s.shift nack) t := by
  obtain ⟨run, start, rfl, full⟩ := begins
  rw [byteLevels, byteBits, ← bitsDownFrom_seven]
  exact bitsAndAnswer_segment (n := 7) run start sends (congrArg BitVec.toNat full) ht

/-- A byte the target refuses ends in STOP (R151, R152). -/
theorem refusedByte_segment : ∃ t, Segment (sentByteMoves true ++ quiet 4) s (byteLevels s.shift true ++ endLevels false) t := by
  have slot : answerSlot s.sym = .acka ∨ answerSlot s.sym = .ackd := by
    rw [begins.sym]
    exact sends.imp (fun h => by rw [h]; rfl) (fun h => by rw [h]; rfl)
  obtain ⟨e, refused⟩ := symbolDone_of_refused (s := answered true s) slot rfl
  exact ⟨_, (sentByte_segment begins sends refused).append (stop_segment begins.run rfl rfl)⟩

end Byte

/-- The first bit of a data byte: byte `b`, at index `i` of `TXB`, is in `SHIFT`, the byte in progress in `s` having been acknowledged. -/
def byteLoaded (i b : Byte) (s : State) : State := toSym .txd { answered false s with idx := i, shift := b, bitc := 7 }

@[simp] theorem byteLoaded_par (i b : Byte) (s : State) : (byteLoaded i b s).par = s.par := rfl
@[simp] theorem byteLoaded_len (i b : Byte) (s : State) : (byteLoaded i b s).len = s.len := rfl
@[simp] theorem byteLoaded_nostop (i b : Byte) (s : State) : (byteLoaded i b s).nostop = s.nostop := rfl
@[simp] theorem byteLoaded_txb (i b : Byte) (s : State) : (byteLoaded i b s).txb = s.txb := rfl
@[simp] theorem byteLoaded_idx (i b : Byte) (s : State) : (byteLoaded i b s).idx = i := rfl
@[simp] theorem byteLoaded_shift (i b : Byte) (s : State) : (byteLoaded i b s).shift = b := rfl

theorem byteLoaded_begins (i b : Byte) {s : State} (run : s.fes = .run) : SendsByte .txd (byteLoaded i b s) := ⟨run, rfl, rfl, rfl⟩

/-- The address byte acknowledged, and the first data byte loaded (R151). -/
theorem addressByte_segment {s : State} {b : Byte} (begins : SendsByte .txa s) (write : s.dir = false) (room : 0 < s.par.txCap)
    (stored : Memory.get s.txb 0 = some b) : Segment (sentByteMoves false) s (byteLevels s.shift false) (byteLoaded 0 b s) := by
  have slot : (answered false s).sym = .acka := congrArg answerSlot begins.sym
  exact sentByte_segment begins (.inl rfl) ((symbolDone_of_addressed slot rfl write).trans (loadByte_of_get room stored))

/-- A data byte acknowledged, and the next one loaded (R152). -/
theorem nextByte_segment {s : State} {b : Byte} (begins : SendsByte .txd s) (more : s.idx.toNat + 1 < s.len.toNat)
    (inside : (s.idx + 1).toNat < s.par.txCap) (stored : Memory.get s.txb (s.idx + 1).toNat = some b) :
    Segment (sentByteMoves false) s (byteLevels s.shift false) (byteLoaded (s.idx + 1) b s) := by
  have slot : (answered false s).sym = .ackd := congrArg answerSlot begins.sym
  exact sentByte_segment begins (.inr rfl) ((symbolDone_of_more slot rfl more).trans (loadByte_of_get inside stored))

/-- The last data byte acknowledged: STOP, or the bus stays held (R152, R156). -/
theorem finalByte_segment {s : State} (begins : SendsByte .txd s) (final : ¬ s.idx.toNat + 1 < s.len.toNat) :
    ∃ t, Segment (sentByteMoves false ++ quiet (if s.nostop then 1 else 4)) s (byteLevels s.shift false ++ endLevels s.nostop) t := by
  have slot : (answered false s).sym = .ackd := congrArg answerSlot begins.sym
  have byte := sentByte_segment begins (.inr rfl) (symbolDone_of_final slot rfl final)
  cases nostop : s.nostop
  · exact ⟨_, byte.append (stop_segment begins.run rfl (if_neg (by simp [answered, inPhase, nostop])))⟩
  · exact ⟨_, byte.append (hold_segment begins.run rfl (if_pos nostop))⟩

/-! ### The data phase and the frame -/

/-- From the first bit of a data byte to the end of the frame (R86, R152): this byte stands in `SHIFT`, the later ones in `TXB`. -/
theorem writeData_segment {dacks : List Bool} {s : State} {nack : Bool} {later : List Byte} (begins : SendsByte .txd s)
    (fits : s.len.toNat ≤ s.par.txCap) (count : s.idx.toNat + 1 + dacks.length = s.len.toNat) (same : later.length = dacks.length)
    (stored : ∀ j < later.length, Memory.get s.txb (s.idx.toNat + 1 + j) = later[j]?) :
    ∃ t, Segment (writeDataMoves s.nostop (nack :: dacks)) s (dataLevels s.nostop ((s.shift :: later).zip (nack :: dacks))) t := by
  induction dacks generalizing s nack later with
  | nil =>
    cases nack
    · obtain rfl := List.length_eq_zero_iff.1 same
      exact finalByte_segment begins count.not_lt
    · exact refusedByte_segment begins (.inr rfl)
  | cons nack' dacks ih =>
    obtain ⟨b, later, rfl⟩ := List.exists_cons_of_length_eq_add_one same
    cases nack
    · rw [List.length_cons] at count
      have more : s.idx.toNat + 1 < s.len.toNat := by omega
      have succ : (s.idx + 1).toNat = s.idx.toNat + 1 := toNat_succ (more.trans s.len.isLt)
      have byte := nextByte_segment (b := b) begins more (by omega) (by rw [succ]; exact stored 0 (Nat.succ_pos _))
      obtain ⟨t, rest⟩ := ih (nack := nack') (later := later) (byteLoaded_begins (s.idx + 1) b begins.run) (by simpa using fits)
        (by rw [byteLoaded_idx, byteLoaded_len]; omega) (Nat.succ.inj same) fun j hj => by
          rw [byteLoaded_idx, byteLoaded_txb, succ, Nat.add_assoc _ 1 j, Nat.add_comm 1 j]
          exact stored (j + 1) (Nat.succ_lt_succ hj)
      rw [byteLoaded_nostop, byteLoaded_shift] at rest
      exact ⟨t, byte.append rest⟩
    · exact refusedByte_segment begins (.inr rfl)

/-- START, and the lines it starts from (R173). -/
theorem start_segment {s : State} (h : Inv s) (run : s.fes = .run) (first : s.sym = .s ∨ s.sym = .sr) (start : s.phi = 0) :
    (s.sclO, s.sdaO) = (!s.claimed, true) ∧ Segment (startMoves s.claimed) s (startLevels s.claimed) (addressBegun s) := by
  have before := h.frame.lines_before run
  rw [linesBefore, if_pos start] at before
  rcases first with hs | hs <;> simp only [hs] at before <;> obtain ⟨scl, sda⟩ := before
  · have free := h.frame.start_unclaimed run hs
    rw [scl, sda, free]
    exact ⟨rfl, freshStart_segment run start hs⟩
  · have claimed := h.frame.restart_claimed run hs
    rw [scl, sda, claimed]
    exact ⟨rfl, repeatedStart_segment run start hs⟩

/-- The levels of a write frame after START (R88, R152). -/
def writeLevels (nostop aack : Bool) (address : Byte) (sent : List (Byte × Bool)) : List (Bool × Bool) :=
  byteLevels address aack ++ if aack then endLevels false else dataLevels nostop sent

theorem monitor_writeLevels (nostop aack sda marked : Bool) (address : Byte) (sent : List (Byte × Bool)) :
    monitor (false, sda) marked (writeLevels nostop aack address sent) =
      byteSymbols address aack ++ (if aack then [] else dataSymbols sent)
        ++ if aack = false ∧ true ∉ sent.map Prod.snd ∧ nostop = true then [] else [.stop] := by
  cases aack
  · simp [writeLevels, monitor_byteLevels, monitor_dataLevels]
  · simp [writeLevels, monitor_byteLevels, monitor_endLevels]

/-- From the first bit of the address byte to the end of a write frame. -/
theorem write_segment {s : State} {aack : Bool} {dacks : List Bool} {bytes : List Byte} (begins : SendsByte .txa s) (write : s.dir = false)
    (pos : 0 < s.len.toNat) (fits : s.len.toNat ≤ s.par.txCap) (answers : dacks.length = s.len.toNat) (length : bytes.length = s.len.toNat)
    (stored : ∀ j < bytes.length, Memory.get s.txb j = bytes[j]?) :
    ∃ t, Segment (sentByteMoves aack ++ if aack then quiet 4 else writeDataMoves s.nostop dacks) s
      (writeLevels s.nostop aack s.shift (bytes.zip dacks)) t := by
  cases aack
  · obtain ⟨nack, dacks, rfl⟩ := List.exists_cons_of_length_pos (answers ▸ pos)
    obtain ⟨b, later, rfl⟩ := List.exists_cons_of_length_pos (length ▸ pos)
    rw [List.length_cons] at answers length
    have zero : (0 : Byte).toNat = 0 := rfl
    have address := addressByte_segment (b := b) begins write (pos.trans_le fits) (stored 0 (Nat.succ_pos _))
    obtain ⟨t, data⟩ := writeData_segment (dacks := dacks) (nack := nack) (later := later) (byteLoaded_begins 0 b begins.run)
      (by simpa using fits) (by rw [byteLoaded_idx, byteLoaded_len, zero]; omega) (by omega) fun j hj => by
        rw [byteLoaded_idx, byteLoaded_txb, zero, Nat.zero_add, Nat.add_comm 1 j]
        exact stored (j + 1) (Nat.succ_lt_succ hj)
    rw [byteLoaded_nostop, byteLoaded_shift] at data
    exact ⟨t, address.append data⟩
  · exact refusedByte_segment begins (.inl rfl)

/-- Settles O57: the engine drives the levels of START, of the bytes and of the end, one symbol after another, and the monitor reports each
of them. -/
theorem writeFramesCarryTheirBytesOnTheBus : Obligations.WriteFramesCarryTheirBytesOnTheBus := by
  intro s aack dacks bytes h run first start write answers length stored
  obtain ⟨pos, fits⟩ := h.frame.len_fits (outstanding_of_inFlight h (.inl run)).1
  rw [write] at fits
  obtain ⟨lines, started⟩ := start_segment h run first start
  obtain ⟨t, written⟩ := write_segment (aack := aack) (addressBegun_begins run) write pos fits answers length stored
  rw [addressBegun_shift write, addressBegun_nostop] at written
  have answered : (bytes.zip dacks).map Prod.snd = dacks := List.map_snd_zip (answers.trans length.symm).le
  rw [lines, writeFrameMoves, List.append_assoc, (started.append written).shows, monitor_startLevels, monitor_writeLevels, answered]

end Sys2Proof.Machine
end

section
/-! Words and their fields: the masks of the opcode map and the readers of the formats single out the same words, those whose reserved fields are
zero, and each such word is the word of its command (spec/30_encoding.md R110 to R116, R120 to R124). -/

namespace Sys2Proof

/-! ### Concatenated fields -/

/-- Two concatenations of fields agree field by field. -/
theorem append_eq_append_iff {m n : Nat} {x x' : BitVec m} {y y' : BitVec n} : x ++ y = x' ++ y' ↔ x = x' ∧ y = y' := by
  constructor
  · intro h
    have high := congrArg (BitVec.extractLsb' n m) h
    have low := congrArg (BitVec.extractLsb' 0 n) h
    rw [BitVec.extractLsb'_append_eq_left, BitVec.extractLsb'_append_eq_left] at high
    rw [BitVec.extractLsb'_append_eq_right, BitVec.extractLsb'_append_eq_right] at low
    exact ⟨high, low⟩
  · rintro ⟨rfl, rfl⟩
    rfl

/-! ### The reserved bits' check -/

theorem ifClear_eq_ok {clear : Bool} {i j : Instr} (h : ifClear clear i = .ok j) : clear = true ∧ i = j := by
  cases clear with
  | true => cases h; exact ⟨rfl, rfl⟩
  | false => cases h

theorem ifClear_ne_reservedOpcode (clear : Bool) (i : Instr) : ifClear clear i ≠ .error .reservedOpcode := by
  cases clear <;> exact nofun

/-! ### Format by format

For each format: a word as its fields, the words its mask matches, and that a word its reader accepts is the word of the command it reads. The
opcode is a variable `op` where commands share the format. -/

section Formats

variable {w : Word} {op : BitVec 4} {i : Instr}

theorem append_fieldsZ (w : Word) : opcode w ++ slice w 0 28 = w := by
  apply BitVec.eq_of_toNat_eq
  simp only [opcode, toNat_append_eq_add, slice_toNat]
  omega

theorem encode_of_decodeZ {c : Instr} (hc : encode c = op ++ 0#28) (hop : (opcode w).toNat = op.toNat)
    (h : decodeZ w c = .ok i) : encode i = w := by
  obtain ⟨clear, rfl⟩ := ifClear_eq_ok h
  have fields := append_fieldsZ w
  rw [eq_of_beq clear, BitVec.eq_of_toNat_eq hop] at fields
  exact hc.trans fields

theorem append_fieldsAB (w : Word) : opcode w ++ slice w 16 12 ++ slice w 8 8 ++ slice w 0 8 = w := by
  apply BitVec.eq_of_toNat_eq
  simp only [opcode, toNat_append_eq_add, slice_toNat]
  omega

theorem maskedAB_iff (o op : BitVec 4) (r : BitVec 12) (a b : Byte) :
    (o ++ r ++ a ++ b) &&& (BitVec.allOnes 4 ++ BitVec.allOnes 12 ++ 0#8 ++ 0#8) = op ++ 0#12 ++ 0#8 ++ 0#8 ↔ o = op ∧ r = 0#12 := by
  simp only [BitVec.and_append, BitVec.and_allOnes, BitVec.and_zero, append_eq_append_iff, and_true]

theorem spellsAB_iff : w &&& 0xFFFF0000 = wordAB op 0 0 ↔ ∃ a b, wordAB op a b = w := by
  constructor
  · intro h
    have fields := append_fieldsAB w
    rw [← fields] at h
    obtain ⟨hop, hres⟩ := (maskedAB_iff ..).1 h
    rw [hop, hres] at fields
    exact ⟨_, _, fields⟩
  · rintro ⟨a, b, rfl⟩
    exact (maskedAB_iff ..).2 ⟨rfl, rfl⟩

theorem encode_of_decodeAB {mk : Byte → Byte → Instr} (hmk : ∀ a b, encode (mk a b) = wordAB op a b)
    (hop : (opcode w).toNat = op.toNat) (h : decodeAB w mk = .ok i) : encode i = w := by
  obtain ⟨clear, rfl⟩ := ifClear_eq_ok h
  have fields := append_fieldsAB w
  rw [eq_of_beq clear, BitVec.eq_of_toNat_eq hop] at fields
  exact (hmk _ _).trans fields

theorem maskedA_iff (o op : BitVec 4) (r : BitVec 12) (a b : Byte) :
    (o ++ r ++ a ++ b) &&& (BitVec.allOnes 4 ++ BitVec.allOnes 12 ++ 0#8 ++ BitVec.allOnes 8) = op ++ 0#12 ++ 0#8 ++ 0#8
      ↔ (o = op ∧ r = 0#12) ∧ b = 0#8 := by
  simp only [BitVec.and_append, BitVec.and_allOnes, BitVec.and_zero, append_eq_append_iff, and_true]

theorem spellsA_iff : w &&& 0xFFFF00FF = wordAB op 0 0 ↔ ∃ a, wordAB op a 0 = w := by
  constructor
  · intro h
    have fields := append_fieldsAB w
    rw [← fields] at h
    obtain ⟨⟨hop, hres⟩, hlow⟩ := (maskedA_iff ..).1 h
    rw [hop, hres, hlow] at fields
    exact ⟨_, fields⟩
  · rintro ⟨a, rfl⟩
    exact (maskedA_iff ..).2 ⟨⟨rfl, rfl⟩, rfl⟩

theorem encode_of_decodeA {mk : Byte → Instr} (hmk : ∀ a, encode (mk a) = wordAB op a 0)
    (hop : (opcode w).toNat = op.toNat) (h : decodeA w mk = .ok i) : encode i = w := by
  obtain ⟨clear, rfl⟩ := ifClear_eq_ok h
  obtain ⟨hres, hlow⟩ := Bool.and_eq_true_iff.1 clear
  have fields := append_fieldsAB w
  rw [eq_of_beq hres, eq_of_beq hlow, BitVec.eq_of_toNat_eq hop] at fields
  exact (hmk _).trans fields

theorem append_fieldsT (w : Word) : opcode w ++ slice w 24 4 ++ slice w 0 24 = w := by
  apply BitVec.eq_of_toNat_eq
  simp only [opcode, toNat_append_eq_add, slice_toNat]
  omega

theorem maskedT_iff (o op r : BitVec 4) (t : Imm24) :
    (o ++ r ++ t) &&& (BitVec.allOnes 4 ++ BitVec.allOnes 4 ++ 0#24) = op ++ 0#4 ++ 0#24 ↔ o = op ∧ r = 0#4 := by
  simp only [BitVec.and_append, BitVec.and_allOnes, BitVec.and_zero, append_eq_append_iff, and_true]

theorem spellsT_iff : w &&& 0xFF000000 = wordT op 0 ↔ ∃ t, wordT op t = w := by
  constructor
  · intro h
    have fields := append_fieldsT w
    rw [← fields] at h
    obtain ⟨hop, hres⟩ := (maskedT_iff ..).1 h
    rw [hop, hres] at fields
    exact ⟨_, fields⟩
  · rintro ⟨t, rfl⟩
    exact (maskedT_iff ..).2 ⟨rfl, rfl⟩

theorem encode_of_decodeT {mk : Imm24 → Instr} (hmk : ∀ t, encode (mk t) = wordT op t)
    (hop : (opcode w).toNat = op.toNat) (h : decodeT w mk = .ok i) : encode i = w := by
  obtain ⟨clear, rfl⟩ := ifClear_eq_ok h
  have fields := append_fieldsT w
  rw [eq_of_beq clear, BitVec.eq_of_toNat_eq hop] at fields
  exact (hmk _).trans fields

theorem append_fieldsS (w : Word) :
    opcode w ++ slice w 27 1 ++ slice w 26 1 ++ slice w 23 3 ++ slice w 16 7 ++ slice w 8 8 ++ slice w 0 8 = w := by
  apply BitVec.eq_of_toNat_eq
  simp only [opcode, toNat_append_eq_add, slice_toNat]
  omega

theorem maskedS_iff (o op : BitVec 4) (d dir n nostop : BitVec 1) (r₁ : BitVec 3) (a : BusAddr) (r₂ l : Byte) :
    (o ++ d ++ n ++ r₁ ++ a ++ r₂ ++ l) &&&
        (BitVec.allOnes 4 ++ BitVec.allOnes 1 ++ BitVec.allOnes 1 ++ BitVec.allOnes 3 ++ 0#7 ++ BitVec.allOnes 8 ++ 0#8)
      = op ++ dir ++ nostop ++ 0#3 ++ 0#7 ++ 0#8 ++ 0#8
    ↔ (((o = op ∧ d = dir) ∧ n = nostop) ∧ r₁ = 0#3) ∧ r₂ = 0#8 := by
  simp only [BitVec.and_append, BitVec.and_allOnes, BitVec.and_zero, append_eq_append_iff, and_true]

theorem spellsS_iff {dir nostop : BitVec 1} : w &&& 0xFF80FF00 = wordS dir nostop 0 0 ↔ ∃ a l, wordS dir nostop a l = w := by
  constructor
  · intro h
    have fields := append_fieldsS w
    rw [← fields] at h
    obtain ⟨⟨⟨⟨hop, hdir⟩, hnostop⟩, hres₁⟩, hres₂⟩ := (maskedS_iff ..).1 h
    rw [hop, hdir, hnostop, hres₁, hres₂] at fields
    exact ⟨_, _, fields⟩
  · rintro ⟨a, l, rfl⟩
    exact (maskedS_iff ..).2 ⟨⟨⟨⟨rfl, rfl⟩, rfl⟩, rfl⟩, rfl⟩

theorem encode_submitForm (dir nostop : BitVec 1) (a : BusAddr) (l : Byte) : encode (submitForm dir nostop a l) = wordS dir nostop a l := by
  rcases BitVec.eq_zero_or_eq_one dir with rfl | rfl <;> rcases BitVec.eq_zero_or_eq_one nostop with rfl | rfl <;> rfl

theorem encode_of_decodeS (hop : (opcode w).toNat = 0x3) (h : decodeS w = .ok i) : encode i = w := by
  obtain ⟨clear, rfl⟩ := ifClear_eq_ok h
  obtain ⟨hres₁, hres₂⟩ := Bool.and_eq_true_iff.1 clear
  have fields := append_fieldsS w
  rw [eq_of_beq hres₁, eq_of_beq hres₂, BitVec.eq_of_toNat_eq (y := 0x3#4) hop] at fields
  exact (encode_submitForm ..).trans fields

theorem append_fieldsI (w : Word) : opcode w ++ slice w 18 10 ++ slice w 16 2 ++ slice w 8 8 ++ slice w 0 8 = w := by
  apply BitVec.eq_of_toNat_eq
  simp only [opcode, toNat_append_eq_add, slice_toNat]
  omega

theorem maskedI_iff (o op : BitVec 4) (r : BitVec 10) (f : FreqCode) (a b : Byte) :
    (o ++ r ++ f ++ a ++ b) &&& (BitVec.allOnes 4 ++ BitVec.allOnes 10 ++ 0#2 ++ 0#8 ++ 0#8) = op ++ 0#10 ++ 0#2 ++ 0#8 ++ 0#8
      ↔ o = op ∧ r = 0#10 := by
  simp only [BitVec.and_append, BitVec.and_allOnes, BitVec.and_zero, append_eq_append_iff, and_true]

theorem spellsI_iff : w &&& 0xFFFC0000 = encode (.init 0 0 0) ↔ ∃ scl sda f, encode (.init scl sda f) = w := by
  constructor
  · intro h
    have fields := append_fieldsI w
    rw [← fields] at h
    obtain ⟨hop, hres⟩ := (maskedI_iff ..).1 h
    rw [hop, hres] at fields
    exact ⟨_, _, _, fields⟩
  · rintro ⟨scl, sda, f, rfl⟩
    exact (maskedI_iff ..).2 ⟨rfl, rfl⟩

theorem encode_of_decodeI (hop : (opcode w).toNat = 0x1) (h : decodeI w = .ok i) : encode i = w := by
  obtain ⟨clear, rfl⟩ := ifClear_eq_ok h
  have fields := append_fieldsI w
  rwa [eq_of_beq clear, BitVec.eq_of_toNat_eq (y := 0x1#4) hop] at fields

end Formats

/-! ### The decoder -/

/-- A word that decodes is the word of its command: the opcode selects the format, and the format's fields are the word. -/
theorem encode_of_decode {w : Word} {i : Instr} (h : decode w = .ok i) : encode i = w := by
  unfold decode at h
  split at h
  case h_1 hop => exact encode_of_decodeI hop h
  case h_2 hop => exact encode_of_decodeZ (op := 0x2) rfl hop h
  case h_3 hop => exact encode_of_decodeS hop h
  case h_4 hop => exact encode_of_decodeT (op := 0x4) (fun _ => rfl) hop h
  case h_5 hop => exact encode_of_decodeAB (op := 0x5) (fun _ _ => rfl) hop h
  case h_6 hop => exact encode_of_decodeAB (op := 0x6) (fun _ _ => rfl) hop h
  case h_7 hop => exact encode_of_decodeAB (op := 0x7) (fun _ _ => rfl) hop h
  case h_8 hop => exact encode_of_decodeAB (op := 0x8) (fun _ _ => rfl) hop h
  case h_9 hop => exact encode_of_decodeA (op := 0x9) (fun _ => rfl) hop h
  case h_10 hop => exact encode_of_decodeT (op := 0xA) (fun _ => rfl) hop h
  case h_11 hop => exact encode_of_decodeA (op := 0xB) (fun _ => rfl) hop h
  case h_12 => cases h

theorem decode_eq_ok_iff {w : Word} {i : Instr} : decode w = .ok i ↔ encode i = w :=
  ⟨encode_of_decode, fun h => h ▸ decode_encode i⟩

/-- The opcodes that are not assigned are told apart from every other illegal word (R120, R124). -/
theorem decode_eq_reservedOpcode_iff (w : Word) :
    decode w = .error .reservedOpcode ↔ (opcode w).toNat = 0 ∨ 0xB < (opcode w).toNat := by
  unfold decode
  split
  case h_12 =>
    refine iff_of_true rfl ?_
    simp only [imp_false] at *
    omega
  all_goals
    refine iff_of_false (ifClear_ne_reservedOpcode _ _) ?_
    omega

/-! ### The opcode map -/

/-- A word that matches a row is the word of a command of that row. -/
theorem exists_encode_of_spells {w : Word} : ∀ r ∈ opcodeMap, r.spells w → ∃ i : Instr, i.mnemonic = r.mnemonic ∧ encode i = w := by
  simp only [opcodeMap, List.forall_mem_cons]
  refine ⟨fun h => ?_, fun h => ?_, fun h => ?_, fun h => ?_, fun h => ?_, fun h => ?_, fun h => ?_, fun h => ?_, fun h => ?_,
    fun h => ?_, fun h => ?_, fun h => ?_, fun h => ?_, fun h => ?_, nofun⟩
  · obtain ⟨scl, sda, f, hw⟩ := spellsI_iff.1 h
    exact ⟨.init scl sda f, rfl, hw⟩
  · exact ⟨.frst, rfl, h.symm.trans BitVec.and_allOnes⟩
  · obtain ⟨a, l, hw⟩ := (spellsS_iff (dir := 0) (nostop := 0)).1 h
    exact ⟨.submitW a l, rfl, hw⟩
  · obtain ⟨a, l, hw⟩ := (spellsS_iff (dir := 0) (nostop := 1)).1 h
    exact ⟨.submitWN a l, rfl, hw⟩
  · obtain ⟨a, l, hw⟩ := (spellsS_iff (dir := 1) (nostop := 0)).1 h
    exact ⟨.submitR a l, rfl, hw⟩
  · obtain ⟨a, l, hw⟩ := (spellsS_iff (dir := 1) (nostop := 1)).1 h
    exact ⟨.submitRN a l, rfl, hw⟩
  · obtain ⟨t, hw⟩ := (spellsT_iff (op := 0x4)).1 h
    exact ⟨.wait t, rfl, hw⟩
  · obtain ⟨a, b, hw⟩ := (spellsAB_iff (op := 0x5)).1 h
    exact ⟨.wreg a b, rfl, hw⟩
  · obtain ⟨a, b, hw⟩ := (spellsAB_iff (op := 0x6)).1 h
    exact ⟨.wblk a b, rfl, hw⟩
  · obtain ⟨a, b, hw⟩ := (spellsAB_iff (op := 0x7)).1 h
    exact ⟨.rblk a b, rfl, hw⟩
  · obtain ⟨a, b, hw⟩ := (spellsAB_iff (op := 0x8)).1 h
    exact ⟨.stb a b, rfl, hw⟩
  · obtain ⟨a, hw⟩ := (spellsA_iff (op := 0x9)).1 h
    exact ⟨.ldb a, rfl, hw⟩
  · obtain ⟨t, hw⟩ := (spellsT_iff (op := 0xA)).1 h
    exact ⟨.stmo t, rfl, hw⟩
  · obtain ⟨a, hw⟩ := (spellsA_iff (op := 0xB)).1 h
    exact ⟨.rdst a, rfl, hw⟩

/-- The word of a command matches the row of its mnemonic. -/
theorem exists_spells_encode (i : Instr) : ∃ r ∈ opcodeMap, r.mnemonic = i.mnemonic ∧ r.spells (encode i) := by
  cases i with
  | init scl sda f => exact ⟨opcodeMap[0], List.getElem_mem _, rfl, spellsI_iff.2 ⟨scl, sda, f, rfl⟩⟩
  | frst => exact ⟨opcodeMap[1], List.getElem_mem _, rfl, BitVec.and_allOnes⟩
  | submitW a l => exact ⟨opcodeMap[2], List.getElem_mem _, rfl, spellsS_iff.2 ⟨a, l, rfl⟩⟩
  | submitWN a l => exact ⟨opcodeMap[3], List.getElem_mem _, rfl, spellsS_iff.2 ⟨a, l, rfl⟩⟩
  | submitR a l => exact ⟨opcodeMap[4], List.getElem_mem _, rfl, spellsS_iff.2 ⟨a, l, rfl⟩⟩
  | submitRN a l => exact ⟨opcodeMap[5], List.getElem_mem _, rfl, spellsS_iff.2 ⟨a, l, rfl⟩⟩
  | wait t => exact ⟨opcodeMap[6], List.getElem_mem _, rfl, spellsT_iff.2 ⟨t, rfl⟩⟩
  | wreg a b => exact ⟨opcodeMap[7], List.getElem_mem _, rfl, spellsAB_iff.2 ⟨a, b, rfl⟩⟩
  | wblk a b => exact ⟨opcodeMap[8], List.getElem_mem _, rfl, spellsAB_iff.2 ⟨a, b, rfl⟩⟩
  | rblk a b => exact ⟨opcodeMap[9], List.getElem_mem _, rfl, spellsAB_iff.2 ⟨a, b, rfl⟩⟩
  | stb a b => exact ⟨opcodeMap[10], List.getElem_mem _, rfl, spellsAB_iff.2 ⟨a, b, rfl⟩⟩
  | ldb a => exact ⟨opcodeMap[11], List.getElem_mem _, rfl, spellsA_iff.2 ⟨a, rfl⟩⟩
  | stmo t => exact ⟨opcodeMap[12], List.getElem_mem _, rfl, spellsT_iff.2 ⟨t, rfl⟩⟩
  | rdst a => exact ⟨opcodeMap[13], List.getElem_mem _, rfl, spellsA_iff.2 ⟨a, rfl⟩⟩

/-- What decodes matches the row of its mnemonic. -/
theorem exists_spells_of_decode {w : Word} {i : Instr} (h : decode w = .ok i) :
    ∃ r ∈ opcodeMap, r.mnemonic = i.mnemonic ∧ r.spells w :=
  encode_of_decode h ▸ exists_spells_encode i

/-- A matching row decodes the word. -/
theorem exists_decode_of_spells {w : Word} {r : OpcodeRow} (hr : r ∈ opcodeMap) (h : r.spells w) :
    ∃ i : Instr, decode w = .ok i ∧ i.mnemonic = r.mnemonic := by
  obtain ⟨i, hm, hw⟩ := exists_encode_of_spells r hr h
  exact ⟨i, decode_eq_ok_iff.2 hw, hm⟩

theorem eq_of_mnemonic_eq : ∀ r ∈ opcodeMap, ∀ r' ∈ opcodeMap, r.mnemonic = r'.mnemonic → r = r' := by decide

/-- No word matches two rows: both name the mnemonic of the one command the word decodes to. -/
theorem eq_of_spells {w : Word} {r r' : OpcodeRow} (hr : r ∈ opcodeMap) (hr' : r' ∈ opcodeMap) (h : r.spells w) (h' : r'.spells w) :
    r = r' := by
  obtain ⟨i, hi, hm⟩ := exists_decode_of_spells hr h
  obtain ⟨i', hi', hm'⟩ := exists_decode_of_spells hr' h'
  obtain rfl : i = i' := Except.ok.inj (hi.symm.trans hi')
  exact eq_of_mnemonic_eq r hr r' hr' (hm.symm.trans hm')

/-- An assigned opcode without a matching row leaves only the rejection of R121. -/
theorem decode_eq_reservedBits {w : Word} (low : 1 ≤ (opcode w).toNat) (high : (opcode w).toNat ≤ 0xB)
    (unmatched : ∀ r ∈ opcodeMap, ¬ r.spells w) : decode w = .error .reservedBits := by
  cases h : decode w with
  | ok i =>
    obtain ⟨r, hr, -, spells⟩ := exists_spells_of_decode h
    exact absurd spells (unmatched r hr)
  | error e =>
    cases e with
    | reservedOpcode =>
      have := (decode_eq_reservedOpcode_iff w).1 h
      omega
    | reservedBits => rfl

/-- Settles O8: by the fields of the word's format. -/
theorem decodedWordsAreTheEncodingOfTheirCommand : Obligations.DecodedWordsAreTheEncodingOfTheirCommand :=
  fun _ _ => encode_of_decode

/-- Settles O9: a row matches exactly the words of its mnemonic's commands. -/
theorem decodingFollowsTheOpcodeMap : Obligations.DecodingFollowsTheOpcodeMap := by
  intro w
  refine ⟨(decode_eq_reservedOpcode_iff w).2, decode_eq_reservedBits, fun r hr h => ?_, fun i => exists_spells_of_decode,
    fun r hr r' hr' => eq_of_spells hr hr'⟩
  obtain ⟨i, hi, hm⟩ := exists_decode_of_spells hr h
  exact ⟨i, hi, hm, encode_of_decode hi⟩

/-- Settles O6: each word is the word of its command. -/
theorem specWordsDecodeToTheirCommands : Obligations.SpecWordsDecodeToTheirCommands :=
  ⟨decode_encode (.init 9 10 1), decode_encode .frst, decode_encode (.submitW 0x68 2), decode_encode (.submitWN 0x68 1),
    decode_encode (.submitR 0x68 6), decode_encode (.submitRN 0x68 6), decode_encode (.wait 5), decode_encode (.wreg 0x6B 0),
    decode_encode (.wblk 0x19 4), decode_encode (.rblk 0x3B 6), decode_encode (.stb 1 7), decode_encode (.ldb 4),
    decode_encode (.stmo 100000), decode_encode (.rdst 0), rfl, rfl⟩

end Sys2Proof
end

section
/-! Words that spell no command (spec/30_encoding.md R120, R121; spec/60_exceptions.md R303). -/

namespace Sys2Proof.Machine

/-- The reserved bits of each assigned opcode (R121). -/
def reservedBitsOf : List (Nat × Word) :=
  [(0x1, 0x0FFC0000), (0x2, 0x0FFFFFFF), (0x3, 0x0380FF00), (0x4, 0x0F000000), (0x5, 0x0FFF0000), (0x6, 0x0FFF0000),
    (0x7, 0x0FFF0000), (0x8, 0x0FFF0000), (0x9, 0x0FFF00FF), (0xA, 0x0F000000), (0xB, 0x0FFF00FF)]

/-- Each row of the opcode map fixes the opcode, and the reserved bits of that opcode to zero. -/
theorem row_fixes_reservedBits : ∀ row ∈ opcodeMap, opcode row.mask = BitVec.allOnes 4 ∧
    ∀ r ∈ reservedBitsOf, (opcode row.matchBits).toNat = r.1 → row.mask &&& r.2 = r.2 ∧ row.matchBits &&& r.2 = 0 := by
  decide

theorem opcode_of_spells {w : Word} {row : OpcodeRow} (hrow : row ∈ opcodeMap) (h : row.spells w) : opcode w = opcode row.matchBits := by
  obtain ⟨opFixed, -⟩ := row_fixes_reservedBits row hrow
  calc opcode w
    _ = opcode w &&& opcode row.mask := by rw [opFixed, BitVec.and_allOnes]
    _ = opcode (w &&& row.mask) := BitVec.extractLsb'_and.symm
    _ = opcode row.matchBits := congrArg opcode h

/-- A word that decodes has the reserved bits of its opcode zero: they lie in the mask of the row it matches, outside the row's match. -/
theorem reservedBits_of_decode {w : Word} {i : Instr} {r : Nat × Word} (h : decode w = .ok i) (hr : r ∈ reservedBitsOf)
    (hop : (opcode w).toNat = r.1) : w &&& r.2 = 0 := by
  obtain ⟨row, hrow, -, spells⟩ := exists_spells_of_decode h
  obtain ⟨-, fixed⟩ := row_fixes_reservedBits row hrow
  obtain ⟨covered, zero⟩ := fixed r hr (opcode_of_spells hrow spells ▸ hop)
  calc w &&& r.2
    _ = (w &&& row.mask) &&& r.2 := by rw [BitVec.and_assoc, covered]
    _ = row.matchBits &&& r.2 := congrArg (· &&& r.2) spells
    _ = 0 := zero

/-- A reserved opcode, or a reserved bit set: the word spells no command (R120, R121). -/
theorem exists_decode_eq_error {w : Word} (h : (opcode w).toNat ∈ [0x0, 0xC, 0xD, 0xE, 0xF]
    ∨ ∃ r ∈ reservedBitsOf, (opcode w).toNat = r.1 ∧ w &&& r.2 ≠ 0) : ∃ e, decode w = .error e := by
  rcases h with hop | ⟨r, hr, hop, set⟩
  · simp only [List.mem_cons, List.not_mem_nil, or_false] at hop
    exact ⟨_, (decode_eq_reservedOpcode_iff w).2 (by omega)⟩
  · cases h : decode w with
    | ok i => exact absurd (reservedBits_of_decode h hr hop) set
    | error e => exact ⟨e, rfl⟩

theorem takeWord_of_error {w : Word} {e : IllegalWord} (s : State) (h : decode w = .error e) :
    takeWord w s = .next { s with res := .illegal, rej := .none, rsp := some 0x0000000F } := by
  rw [takeWord, h]
  rfl

/-- Settles O5: such a word decodes to an error, at the port and in the host's turn. -/
theorem illegalWordsAreAnsweredAndChangeNothingElse : Obligations.IllegalWordsAreAnsweredAndChangeNothingElse := by
  intro w s h
  obtain ⟨e, illegal⟩ := exists_decode_eq_error h
  refine ⟨takeWord_of_error s illegal, fun items hp hj hl => ?_⟩
  calc perform .host s
    _ = presentNext s := hostStep_of_unlocked hl
    _ = takeWord w { s with prog := items } := presentNext_of_word hj hp
    _ = _ := takeWord_of_error _ illegal

end Sys2Proof.Machine
end

section
/-! Assembler lines: which lines spell a command, and the word of each line (spec/30_encoding.md R119, R125). -/

namespace Sys2Proof

/-! ### Which lines spell a command -/

theorem operandsFit_toNat_cons {n : Nat} (x : BitVec n) (widths ns : List Nat) :
    operandsFit (n :: widths) (x.toNat :: ns) = operandsFit widths ns := by
  rw [operandsFit, decide_eq_true x.isLt, Bool.true_and]

/-- A command's own line passes the check: its operands are values of their fields. -/
theorem asm_wellFormed (i : Instr) : i.asm.wellFormed = true := by
  cases i <;> simp only [AsmLine.wellFormed, Instr.asm, Mnemonic.widths, operandsFit_toNat_cons] <;> rfl

theorem eq_nil_of_operandsFit {ns : List Nat} (h : operandsFit [] ns = true) : ns = [] := by
  cases ns with
  | nil => rfl
  | cons n ns => cases h

/-- An operand that fits its field is the number of a value of the field. -/
theorem exists_of_operandsFit_cons {n : Nat} {widths ns : List Nat} (h : operandsFit (n :: widths) ns = true) :
    ∃ (x : BitVec n) (rest : List Nat), ns = x.toNat :: rest ∧ operandsFit widths rest = true := by
  cases ns with
  | nil => cases h
  | cons m rest =>
    simp only [operandsFit, Bool.and_eq_true, decide_eq_true_eq] at h
    obtain ⟨hm, fit⟩ := h
    exact ⟨.ofNat n m, rest, by rw [BitVec.toNat_ofNat, Nat.mod_eq_of_lt hm], fit⟩

theorem exists_of_operandsFit_one {n : Nat} {ns : List Nat} (h : operandsFit [n] ns = true) : ∃ x : BitVec n, ns = [x.toNat] := by
  obtain ⟨x, rest, rfl, fit⟩ := exists_of_operandsFit_cons h
  exact ⟨x, by rw [eq_nil_of_operandsFit fit]⟩

theorem exists_of_operandsFit_two {m n : Nat} {ns : List Nat} (h : operandsFit [m, n] ns = true) :
    ∃ (x : BitVec m) (y : BitVec n), ns = [x.toNat, y.toNat] := by
  obtain ⟨x, rest, rfl, fit⟩ := exists_of_operandsFit_cons h
  obtain ⟨y, rfl⟩ := exists_of_operandsFit_one fit
  exact ⟨x, y, rfl⟩

/-- A line whose operands fit is the line of a command. -/
theorem exists_asm_of_wellFormed {l : AsmLine} (h : l.wellFormed = true) : ∃ i : Instr, i.asm = l := by
  obtain ⟨mnemonic, operands⟩ := l
  cases mnemonic with
  | INIT =>
    obtain ⟨scl, rest, rfl, fit⟩ := exists_of_operandsFit_cons h
    obtain ⟨sda, f, rfl⟩ := exists_of_operandsFit_two fit
    exact ⟨.init scl sda f, rfl⟩
  | FRST =>
    obtain rfl := eq_nil_of_operandsFit h
    exact ⟨.frst, rfl⟩
  | SUBMIT_W =>
    obtain ⟨a, l, rfl⟩ := exists_of_operandsFit_two h
    exact ⟨.submitW a l, rfl⟩
  | SUBMIT_WN =>
    obtain ⟨a, l, rfl⟩ := exists_of_operandsFit_two h
    exact ⟨.submitWN a l, rfl⟩
  | SUBMIT_R =>
    obtain ⟨a, l, rfl⟩ := exists_of_operandsFit_two h
    exact ⟨.submitR a l, rfl⟩
  | SUBMIT_RN =>
    obtain ⟨a, l, rfl⟩ := exists_of_operandsFit_two h
    exact ⟨.submitRN a l, rfl⟩
  | WAIT =>
    obtain ⟨t, rfl⟩ := exists_of_operandsFit_one h
    exact ⟨.wait t, rfl⟩
  | WREG =>
    obtain ⟨a, b, rfl⟩ := exists_of_operandsFit_two h
    exact ⟨.wreg a b, rfl⟩
  | WBLK =>
    obtain ⟨a, b, rfl⟩ := exists_of_operandsFit_two h
    exact ⟨.wblk a b, rfl⟩
  | RBLK =>
    obtain ⟨a, b, rfl⟩ := exists_of_operandsFit_two h
    exact ⟨.rblk a b, rfl⟩
  | STB =>
    obtain ⟨a, b, rfl⟩ := exists_of_operandsFit_two h
    exact ⟨.stb a b, rfl⟩
  | LDB =>
    obtain ⟨a, rfl⟩ := exists_of_operandsFit_one h
    exact ⟨.ldb a, rfl⟩
  | STMO =>
    obtain ⟨t, rfl⟩ := exists_of_operandsFit_one h
    exact ⟨.stmo t, rfl⟩
  | RDST =>
    obtain ⟨a, rfl⟩ := exists_of_operandsFit_one h
    exact ⟨.rdst a, rfl⟩

/-- What does not fit: too few or too many operands, or one that is too large for its field. -/
theorem operandsFit_eq_false_iff (widths ns : List Nat) :
    operandsFit widths ns = false ↔ ns.length ≠ widths.length ∨ ∃ x ∈ ns.zip widths, 2 ^ x.2 ≤ x.1 := by
  induction widths generalizing ns with
  | nil => cases ns <;> simp [operandsFit]
  | cons n widths ih =>
    cases ns with
    | nil => simp [operandsFit]
    | cons m ms =>
      simp only [operandsFit, Bool.and_eq_false_iff, decide_eq_false_iff_not, not_lt, ih, List.length_cons, List.zip_cons_cons,
        List.mem_cons, exists_eq_or_imp, ne_eq, Nat.add_right_cancel_iff]
      exact or_left_comm

/-! ### Assembling -/

theorem assemble_asm (i : Instr) : i.asm.assemble = some i := by
  rw [AsmLine.assemble, if_pos (asm_wellFormed i)]
  cases i <;> simp only [Instr.asm, BitVec.ofNat_toNat, BitVec.setWidth_eq]

theorem assemble_eq_none_iff {l : AsmLine} : l.assemble = none ↔ l.wellFormed = false := by
  constructor
  · intro h
    by_contra fits
    obtain ⟨i, rfl⟩ := exists_asm_of_wellFormed (Bool.eq_true_of_not_eq_false fits)
    cases h.symm.trans (assemble_asm i)
  · intro h
    rw [AsmLine.assemble, h]
    rfl

theorem asm_of_assemble {l : AsmLine} {i : Instr} (h : l.assemble = some i) : i.asm = l := by
  cases fits : l.wellFormed with
  | true =>
    obtain ⟨j, rfl⟩ := exists_asm_of_wellFormed fits
    rw [Option.some.inj (h.symm.trans (assemble_asm j))]
  | false => cases h.symm.trans (assemble_eq_none_iff.2 fits)

/-! ### The words of the lines -/

theorem wordAB_eq_or (op : BitVec 4) (a b : Byte) :
    wordAB op a b = op.zeroExtend 32 <<< 28 ||| a.zeroExtend 32 <<< 8 ||| b.zeroExtend 32 := by
  rw [wordAB, ← BitVec.setWidth_eq (op ++ 0 ++ a ++ b)]
  simp only [BitVec.setWidth_append_eq_shiftLeft_setWidth_or (w'' := 32), BitVec.shiftLeft_or_distrib, ← BitVec.shiftLeft_add]
  simp

theorem wordT_eq_or (op : BitVec 4) (t : Imm24) : wordT op t = op.zeroExtend 32 <<< 28 ||| t.zeroExtend 32 := by
  rw [wordT, ← BitVec.setWidth_eq (op ++ 0 ++ t)]
  simp only [BitVec.setWidth_append_eq_shiftLeft_setWidth_or (w'' := 32), BitVec.shiftLeft_or_distrib, ← BitVec.shiftLeft_add]
  simp

theorem wordS_eq_or (dir nostop : BitVec 1) (a : BusAddr) (l : Byte) :
    wordS dir nostop a l = (0x3#4 ++ dir ++ nostop).zeroExtend 32 <<< 26 ||| a.zeroExtend 32 <<< 16 ||| l.zeroExtend 32 := by
  rw [wordS, ← BitVec.setWidth_eq (0x3 ++ dir ++ nostop ++ 0 ++ a ++ 0 ++ l)]
  simp only [BitVec.setWidth_append_eq_shiftLeft_setWidth_or (w'' := 32), BitVec.shiftLeft_or_distrib, ← BitVec.shiftLeft_add]
  simp

theorem encode_init_eq_or (scl sda : Byte) (f : FreqCode) :
    encode (.init scl sda f) = 0x10000000 ||| f.zeroExtend 32 <<< 16 ||| scl.zeroExtend 32 <<< 8 ||| sda.zeroExtend 32 := by
  rw [encode, ← BitVec.setWidth_eq (0x1 ++ 0 ++ f ++ scl ++ sda)]
  simp only [BitVec.setWidth_append_eq_shiftLeft_setWidth_or (w'' := 32), BitVec.shiftLeft_or_distrib, ← BitVec.shiftLeft_add]
  simp

/-- The word of `LDB` or `RDST`, whose low byte is reserved. -/
theorem wordAB_zero_eq_or (op : BitVec 4) (a : Byte) : wordAB op a 0 = op.zeroExtend 32 <<< 28 ||| a.zeroExtend 32 <<< 8 :=
  (wordAB_eq_or op a 0).trans BitVec.or_zero

/-- Settles O10: the words by their formats; a line assembles exactly when it is the line of a command. -/
theorem assemblerLinesSpellTheStatedWords : Obligations.AssemblerLinesSpellTheStatedWords := by
  refine ⟨fun a f x y t => ?_, assemble_asm, fun l i => asm_of_assemble,
    fun l => assemble_eq_none_iff.trans (operandsFit_eq_false_iff ..)⟩
  exact ⟨encode_init_eq_or x y f, rfl, wordS_eq_or 0 0 a x, wordS_eq_or 0 1 a x, wordS_eq_or 1 0 a x, wordS_eq_or 1 1 a x,
    wordT_eq_or 0x4 t, wordAB_eq_or 0x5 x y, wordAB_eq_or 0x6 x y, wordAB_eq_or 0x7 x y, wordAB_eq_or 0x8 x y,
    wordAB_zero_eq_or 0x9 x, wordT_eq_or 0xA t, wordAB_zero_eq_or 0xB x⟩

/-- Settles O7: the operands of a command are values of their fields, and the readers find them in its word. -/
theorem encodedCommandsDecodeToThemselves : Obligations.EncodedCommandsDecodeToThemselves :=
  fun i => ⟨asm_wellFormed i, decode_encode i⟩

end Sys2Proof
end

section
/-! The transport's command, what events say of their frame, and the mover (spec/41_bus_transport.md R140 to R144, R155, R161). -/

namespace Sys2Proof.Machine

/-- Settles O47: the facts are parts of the invariant every step keeps. -/
theorem reachableEventsFitTheirFrame : Obligations.ReachableEventsFitTheirFrame := by
  intro s hs
  obtain ⟨-, arbiter, frame, -, -, -⟩ := reachable_inv hs
  refine ⟨frame.overrun_is_read, frame.data_nack_is_write, fun done read => ⟨frame.done_has_all done read, ?_⟩, frame.delivered_has_all,
    fun flag => (arbiter.flag_delivered flag).symm, fun idle => ?_, fun held => ?_, frame.len_fits⟩
  · obtain ⟨-, -, empty⟩ := arbiter.pending_over (by simp [done])
    exact empty
  · obtain ⟨free, scl, sda⟩ := frame.released_unclaimed (.inl idle)
    exact ⟨scl, sda, free⟩
  · obtain ⟨claimed, scl, sda⟩ := frame.held_claimed held
    exact ⟨scl, sda, claimed⟩

/-! ### The mover -/

/-- The mover has taken the byte held (R155). -/
def byteMoved (s : State) : State := { s with rxb := Memory.put s.rxb s.ridx.toNat s.rxd, ridx := s.ridx + 1, rxv := false }

@[simp] theorem byteMoved_fes (s : State) : (byteMoved s).fes = s.fes := rfl
@[simp] theorem byteMoved_errc (s : State) : (byteMoved s).errc = s.errc := rfl
@[simp] theorem byteMoved_idx (s : State) : (byteMoved s).idx = s.idx := rfl
@[simp] theorem byteMoved_len (s : State) : (byteMoved s).len = s.len := rfl
@[simp] theorem byteMoved_sym (s : State) : (byteMoved s).sym = s.sym := rfl
@[simp] theorem byteMoved_phi (s : State) : (byteMoved s).phi = s.phi := rfl
@[simp] theorem byteMoved_rxv (s : State) : (byteMoved s).rxv = false := rfl
@[simp] theorem byteMoved_rxb (s : State) : (byteMoved s).rxb = Memory.put s.rxb s.ridx.toNat s.rxd := rfl

/-- Under the invariant a byte to move has a place in `RXB` (R81, R155). -/
theorem perform_mover_of_full {s : State} (h : Inv s) (full : s.rxv = true) : perform .mover s = .next (byteMoved s) := by
  obtain ⟨inside, fits⟩ := ridx_lt h full
  exact (if_pos full).trans (moveByte_next (inside.trans_le fits))

/-- Settles O40: the index is in range by the count of the bytes received (R155), and a buffer reads back what was put. -/
theorem theMoverStoresTheHeldByte : Obligations.TheMoverStoresTheHeldByte := by
  intro s h full
  obtain ⟨inside, fits⟩ := ridx_lt h full
  exact ⟨inside, inside.trans_le fits, _, perform_mover_of_full h full, fun j => Memory.get_put ..⟩

/-! ### Submission -/

theorem submit_of_accepted {dir nostop : Bool} {a : BusAddr} {len : Byte} {s : State} (h : submitCheck dir nostop len s = .none) :
    submit dir nostop a len s = answer .success .none 0 (launch dir nostop a len s) := by
  rw [submit, h]

theorem submit_of_rejected {dir nostop : Bool} {a : BusAddr} {len : Byte} {s : State} {cause : Rej}
    (h : submitCheck dir nostop len s = cause) (rejects : cause ≠ .none) :
    submit dir nostop a len s = answer .submissionRejected cause 0 s := by
  rcases submit_cases dir nostop a len s with ⟨accepted, -⟩ | ⟨-, e⟩
  · exact absurd (h.symm.trans accepted) rejects
  · rw [e, h]

/-- Settles O14: every test of R141 passes, and the launch writes what R142 lists. -/
theorem acceptedSubmissionsLaunchTheirFrame : Obligations.AcceptedSubmissionsLaunchTheirFrame := by
  intro a len s ready free armed some
  have accepted (dir nostop : Bool) (form : ¬ (dir = true ∧ nostop = true)) (fits : len.toNat ≤ frameCap s.par dir) :
      submit dir nostop a len s = answer .success .none 0 (launch dir nostop a len s) :=
    submit_of_accepted (submitCheck_none.2 ⟨ready, free, armed, form, some, fits⟩)
  refine ⟨fun i hi fits => ?_, fun fits => congrArg _ (accepted true false (by simp) fits)⟩
  simp only [List.mem_cons, List.not_mem_nil, or_false] at hi
  rcases hi with rfl | rfl
  · exact congrArg _ (accepted false false (by simp) fits)
  · exact congrArg _ (accepted false true (by simp) fits)

/-- Settles O15: the first test of R141 that fails decides, and a rejection writes the response only. -/
theorem rejectedSubmissionsReportTheFirstCause : Obligations.RejectedSubmissionsReportTheFirstCause := by
  intro dir nostop a len s i form
  have submits : exec i s = .next (submit dir nostop a len s) := by
    subst form
    cases dir <;> cases nostop <;> rfl
  have rejected {cause : Rej} (h : submitCheck dir nostop len s = cause) (rejects : cause ≠ .none) :
      exec i s = .next (answer .submissionRejected cause 0 s) :=
    submits.trans (congrArg _ (submit_of_rejected h rejects))
  refine ⟨fun unready => ?_, fun ready busy => ?_, fun ready free unarmed => ?_, fun ready free armed read hold => ?_,
    fun ready free armed legal empty => ?_, fun ready free armed write long => ?_, fun ready free armed read stop long => ?_,
    fun ready free armed legal some fits => ?_⟩
  · exact rejected (cause := .notReady) (by simp [submitCheck, unready]) (by simp)
  · exact rejected (cause := .busy) (by simp [submitCheck, ready, busy]) (by simp)
  · exact rejected (cause := .notArmed) (by simp [submitCheck, ready, free, unarmed]) (by simp)
  · exact rejected (cause := .badForm) (by simp [submitCheck, ready, free, armed, read, hold]) (by simp)
  · exact rejected (cause := .badLength) (by simp [submitCheck, ready, free, armed, empty]; simpa using legal) (by simp)
  · exact rejected (cause := .badLength) (by simp [submitCheck, ready, free, armed, write, frameCap, long]) (by simp)
  · exact rejected (cause := .badLength) (by simp [submitCheck, ready, free, armed, read, stop, frameCap, long]) (by simp)
  · have accepted : submitCheck dir nostop len s = .none :=
      submitCheck_none.2 ⟨ready, free, armed, fun bad => by simp [legal bad.1] at bad, some, fits⟩
    exact ⟨_, submits.trans (congrArg _ (submit_of_accepted accepted)), rfl, rfl, rfl, rfl⟩

/-- Settles O16: the form fails the test of R141 that is its own, so `SUBMIT.RN` is never accepted. -/
theorem submitRnIsAlwaysRejected : Obligations.SubmitRnIsAlwaysRejected := by
  intro a len s
  have rejects : submitCheck true true len s ≠ .none := fun accepted => by
    obtain ⟨-, -, -, form, -⟩ := submitCheck_none.1 accepted
    simp at form
  calc exec (.submitRN a len) s
    _ = .next (answer .submissionRejected (submitCheck true true len s) 0 s) := congrArg _ (submit_of_rejected rfl rejects)
    _ = _ := by
      by_cases ready : s.lc = .ready
      · cases busy : s.busy <;> cases armed : s.armed <;> simp [answer, submitCheck, ready, busy, armed] <;> rfl
      · simp [answer, submitCheck, ready]
        rfl

end Sys2Proof.Machine
end

section
/-! The step that completes a symbol: what each symbol's last phase writes, and the symbol that follows (spec/41_bus_transport.md R151 to R154,
R156 to R158). -/

namespace Sys2Proof.Machine

/-! ### A symbol's last phase -/

/-- A symbol's last phase is neither phase 1, in which SCL is released and SDA sampled, nor the first phase of START (R173, R180). -/
theorem lastPhase_late {s : State} (last : isLastPhase s = true) : s.phi ≠ 1 ∧ (s.sym = .s → s.phi ≠ 0) := by
  simp only [isLastPhase, beq_iff_eq] at last
  constructor
  · intro second
    cases hy : s.sym <;> simp [hy, second, Sym.phases] at last
  · intro hy first
    simp [hy, first, Sym.phases] at last

/-- Only STOP can find an error in its last phase: SDA low, with none before it (R185, R186). -/
theorem phaseBusError_of_last {s : State} {sclI sdaI : Bool} (last : isLastPhase s = true)
    (released : s.sym = .p → s.errc = .none → sdaI = true) : phaseBusError s sclI sdaI = false := by
  obtain ⟨late, started⟩ := lastPhase_late last
  cases hy : s.sym
  case p =>
    by_cases clean : s.errc = .none
    · simp [phaseBusError, hy, released hy clean]
    · simp [phaseBusError, hy, clean]
  all_goals simp_all [phaseBusError]

/-- The step that performs a symbol's last phase completes the symbol, wherever the target has SCL (R150, R172). -/
theorem perform_lastPhase {s : State} {sclT sdaT : Bool} {lines : Bool × Bool} (run : s.fes = .run) (out : currentLines s = some lines)
    (last : isLastPhase s = true) (released : s.sym = .p → s.errc = .none → level lines.2 sdaT = true) :
    perform (.fe sclT sdaT) s = symbolDone (inPhase s.phi s.samp lines s) := by
  have advances : isRelease s.sym s.phi = false := by
    cases hy : s.sym <;> simp [isRelease, (lastPhase_late last).1]
  have clean : phaseBusError (drive lines s) (level lines.1 sclT) (level lines.2 sdaT) = false := phaseBusError_of_last last released
  have kept : sampleAfter (drive lines s) (level lines.2 sdaT) = s.samp := sampleAfter_of_kept (.inl (lastPhase_late last).1) _
  have last : isLastPhase (drive lines s) = true := last
  simp only [perform, feStep, run, runStep_cases out, advances, Bool.false_and, performPhase, clean, last, sample_eq, kept,
    Bool.false_eq_true, if_false, if_true]
  rfl

section LastPhase

variable {s : State} {sclT sdaT : Bool} (run : s.fes = .run)
include run

/-- The last phase of a symbol that carries a bit leaves SCL low and the bit on SDA (R173, R176). -/
theorem perform_bitEnd (carries : samplesSda s.sym 1 = true) (last : s.phi = 3) :
    perform (.fe sclT sdaT) s = symbolDone (inPhase 3 s.samp (false, sentBit s) s) := by
  rw [← last]
  refine perform_lastPhase run ?_ ?_ ?_
  · rw [currentLines, last]
    cases hy : s.sym <;> simp_all [samplesSda, phaseLines]
  · rw [isLastPhase, last]
    cases hy : s.sym <;> simp_all [samplesSda, Sym.phases]
  · intro hp
    simp [hp, samplesSda] at carries

/-- The last phase of START, repeated or not, leaves both lines low (R174, R175). -/
theorem perform_startEnd (last : s.sym = .s ∧ s.phi = 2 ∨ s.sym = .sr ∧ s.phi = 3) :
    perform (.fe sclT sdaT) s = symbolDone (inPhase s.phi s.samp (false, false) s) := by
  refine perform_lastPhase run ?_ ?_ ?_ <;> rcases last with ⟨hs, last⟩ | ⟨hs, last⟩
  · rw [currentLines, hs, last]; rfl
  · rw [currentLines, hs, last]; rfl
  · rw [isLastPhase, hs, last]; rfl
  · rw [isLastPhase, hs, last]; rfl
  · simp [hs]
  · simp [hs]

theorem perform_stopEnd (hs : s.sym = .p) (last : s.phi = 3) (released : s.errc = .none → sdaT = true) :
    perform (.fe sclT sdaT) s = .next (stopDone (inPhase s.phi s.samp (true, true) s)) :=
  (perform_lastPhase (lines := (true, true)) run (by rw [currentLines, hs, last]; rfl) (by rw [isLastPhase, hs, last]; rfl)
    fun _ => released).trans (symbolDone_of_p hs)

theorem perform_holdEnd (hs : s.sym = .h) (last : s.phi = 0) :
    perform (.fe sclT sdaT) s = .next (raiseEvent .done .held { inPhase s.phi s.samp (false, true) s with claimed := true }) :=
  (perform_lastPhase (lines := (false, true)) run (by rw [currentLines, hs, last]; rfl) (by rw [isLastPhase, hs, last]; rfl)
    (by simp [hs])).trans (symbolDone_of_h hs)

end LastPhase

/-! ### What follows a symbol -/

/-- The address byte refused: STOP with error (R151). -/
theorem symbolDone_of_addressRefused {s : State} (hs : s.sym = .acka) (nack : s.samp = true) :
    symbolDone s = .next (toSym .p { s with errc := .addressNack }) := by
  simp only [symbolDone, hs, nack, if_true]

/-- A data byte refused: STOP with error (R152). -/
theorem symbolDone_of_dataRefused {s : State} (hs : s.sym = .ackd) (nack : s.samp = true) :
    symbolDone s = .next (toSym .p { s with errc := .dataNack }) := by
  simp only [symbolDone, hs, nack, if_true]

/-- The address byte of a read acknowledged: the first bit to receive (R151). -/
theorem symbolDone_of_readAddressed {s : State} (hs : s.sym = .acka) (ack : s.samp = false) (read : s.dir = true) :
    symbolDone s = .next (toSym .rxbit { s with idx := 0, bitc := 7 }) := by
  simp [symbolDone, hs, ack, read]

/-- A complete byte goes to the empty holding register (R154). -/
theorem byteReceived_of_empty {s : State} (empty : s.rxv = false) : byteReceived s = { s with rxd := s.shift, rxv := true } := by
  simp [byteReceived, empty]

/-- A complete byte that finds the holding register full is lost (R154). -/
theorem byteReceived_of_full {s : State} (full : s.rxv = true) : byteReceived s = { s with errc := .overrun } := if_pos full

/-- The bit sampled stands at its place in `SHIFT` (R153). -/
def bitReceived (s : State) : State := { s with shift := setBit s.shift s.bitc.toNat s.samp }

theorem symbolDone_of_receivedBit {s : State} (hs : s.sym = .rxbit) : symbolDone s =
    .next (if s.bitc = 0 then toSym .mack (byteReceived (bitReceived s)) else toSym .rxbit { bitReceived s with bitc := s.bitc - 1 }) := by
  unfold symbolDone
  split
  case h_7 => split <;> rfl
  all_goals simp_all

theorem symbolDone_of_nextBit {s : State} (hs : s.sym = .rxbit) (more : s.bitc ≠ 0) :
    symbolDone s = .next (toSym .rxbit { bitReceived s with bitc := s.bitc - 1 }) :=
  (symbolDone_of_receivedBit hs).trans (congrArg _ (if_neg more))

/-- The last bit of a byte, the byte before it having been moved (R154). -/
theorem symbolDone_of_byteHeld {s : State} (hs : s.sym = .rxbit) (final : s.bitc = 0) (empty : s.rxv = false) :
    symbolDone s = .next (toSym .mack { bitReceived s with rxd := setBit s.shift s.bitc.toNat s.samp, rxv := true }) := by
  rw [symbolDone_of_receivedBit hs, if_pos final, byteReceived_of_empty (s := bitReceived s) empty]
  rfl

/-- The last bit of a byte, the byte before it still in the holding register (R154). -/
theorem symbolDone_of_byteLost {s : State} (hs : s.sym = .rxbit) (final : s.bitc = 0) (full : s.rxv = true) :
    symbolDone s = .next (toSym .mack { bitReceived s with errc := .overrun }) := by
  rw [symbolDone_of_receivedBit hs, if_pos final, byteReceived_of_full (s := bitReceived s) full]

/-- The master's ACK slot of a byte that is not the last, no byte having been lost: the next byte (R154). -/
theorem symbolDone_of_readMore {s : State} (hs : s.sym = .mack) (clean : s.errc = .none) (more : s.idx.toNat + 1 < s.len.toNat) :
    symbolDone s = .next (toSym .rxbit { s with idx := s.idx + 1, bitc := 7 }) := by
  simp [symbolDone, hs, clean, more]

/-- The master's ACK slot after an error, or of the last byte: STOP (R154). -/
theorem symbolDone_of_readStop {s : State} (hs : s.sym = .mack) (final : s.errc ≠ .none ∨ ¬ s.idx.toNat + 1 < s.len.toNat) :
    symbolDone s = .next (toSym .p s) := by
  rcases final with error | final
  · simp [symbolDone, hs, error]
  · simp [symbolDone, hs, final]

/-- A byte to send, whether something has written it or not (R84, R151, R152). -/
theorem loadByte_either {i : Byte} {s : State} (inside : i.toNat < s.par.txCap) :
    (∀ v, Memory.get s.txb i.toNat = some v → loadByte i s = .next (toSym .txd { s with idx := i, shift := v, bitc := 7 })) ∧
    (Memory.get s.txb i.toNat = none →
      ∃ v n, loadByte i s = .next (toSym .txd { s with idx := i, shift := v, draws := n, bitc := 7 })) :=
  ⟨fun _ stored => loadByte_of_get inside stored, fun _ => ⟨_, _, loadByte_next inside⟩⟩

/-- A bit received changes its place of `SHIFT` only (R153). -/
theorem getLsbD_setBit (v : Byte) {i j : Nat} (b : Bool) (hi : i < 8) (hj : j < 8) :
    (setBit v i b).getLsbD j = if j = i then b else v.getLsbD j := by
  rcases lt_trichotomy j i with below | rfl | above
  · simp [setBit, hj, below, below.ne]
  · simp [setBit, hj]
  · have apart : j - i ≠ 0 := by omega
    simp [setBit, hj, above.not_gt, above.ne', apart]

/-- The end of a frame after an error (R157, R158). -/
theorem stopDone_of_error {s : State} (error : s.errc ≠ .none) :
    stopDone s = raiseEvent s.errc .idle { s with claimed := false, rxv := false } := by
  simp [stopDone, error]

/-- The end of a clean frame with no byte left to move (R157, R158). -/
theorem stopDone_of_clean {s : State} (clean : s.errc = .none) (moved : s.dir = false ∨ s.rxv = false) :
    stopDone s = raiseEvent .done .idle { s with claimed := false } := by
  rcases moved with write | empty
  · simp [stopDone, clean, write]
  · simp [stopDone, clean, empty]

/-- A clean read whose last byte is still to be moved (R157, R158). -/
theorem stopDone_of_full {s : State} (clean : s.errc = .none) (read : s.dir = true) (full : s.rxv = true) :
    stopDone s = { s with claimed := false, fes := .drain } := by
  simp [stopDone, clean, read, full]

/-! ### The tables -/

/-- The step that completes a bit sent: the next bit, or the ACK slot (R151, R152). -/
theorem perform_sentBitEnd {s : State} {sclT sdaT : Bool} (run : s.fes = .run) (sends : s.sym = .txa ∨ s.sym = .txd) (last : s.phi = 3) :
    perform (.fe sclT sdaT) s = .next (if s.bitc = 0 then
        toSym (answerSlot s.sym) (inPhase 3 s.samp (false, s.shift.getLsbD s.bitc.toNat) s)
      else toSym s.sym { inPhase 3 s.samp (false, s.shift.getLsbD s.bitc.toNat) s with bitc := s.bitc - 1 }) := by
  have sent : sentBit s = s.shift.getLsbD s.bitc.toNat := by rcases sends with hs | hs <;> rw [sentBit, hs]
  rw [perform_bitEnd run (by rcases sends with hs | hs <;> rw [hs] <;> rfl) last, sent]
  exact symbolDone_of_sentBit sends

/-- The step that completes the target's ACK slot leaves SDA released (R177). -/
theorem perform_answerEnd {s : State} {sclT sdaT : Bool} (run : s.fes = .run) (slot : s.sym = .acka ∨ s.sym = .ackd) (last : s.phi = 3) :
    perform (.fe sclT sdaT) s = symbolDone (inPhase 3 s.samp (false, true) s) := by
  have sent : sentBit s = true := by rcases slot with hs | hs <;> rw [sentBit, hs]
  rw [perform_bitEnd run (by rcases slot with hs | hs <;> rw [hs] <;> rfl) last, sent]

/-- Settles O36, row by row of the table of R151. -/
theorem addressPhaseGoesSymbolBySymbol : Obligations.AddressPhaseGoesSymbolBySymbol := by
  intro s sclT sdaT run q b
  have answer (hs : s.sym = .acka) (last : s.phi = 3) := perform_answerEnd (sclT := sclT) (sdaT := sdaT) run (.inl hs) last
  refine ⟨fun last => ?_, fun hs last more => ?_, fun hs last final => ?_, fun hs last nack => ?_, fun hs last ack write => ?_,
    fun hs last ack read => ?_⟩
  · exact (perform_startEnd run last).trans (symbolDone_of_start (last.imp And.left And.left))
  · exact (perform_sentBitEnd run (.inl hs) last).trans (congrArg _ (if_neg more))
  · refine (perform_sentBitEnd run (.inl hs) last).trans (congrArg _ ((if_pos final).trans ?_))
    rw [hs]
    rfl
  · exact (answer hs last).trans (symbolDone_of_addressRefused hs nack)
  · have addressed := (answer hs last).trans (symbolDone_of_addressed hs ack write)
    have room : (0 : Byte).toNat < s.par.txCap := Nat.succ_pos _
    obtain ⟨stored, unwritten⟩ := loadByte_either (s := inPhase 3 s.samp (false, true) s) room
    refine ⟨fun v hv => addressed.trans (stored v hv), fun hn => ?_⟩
    obtain ⟨v, n, loaded⟩ := unwritten hn
    exact ⟨v, n, addressed.trans loaded⟩
  · exact (answer hs last).trans (symbolDone_of_readAddressed hs ack read)

/-- Settles O37, row by row of the table of R152. -/
theorem writeDataPhaseGoesSymbolBySymbol : Obligations.WriteDataPhaseGoesSymbolBySymbol := by
  intro s sclT sdaT run last fits q b
  have answer (hs : s.sym = .ackd) := perform_answerEnd (sclT := sclT) (sdaT := sdaT) run (.inr hs) last
  refine ⟨fun hs more => ?_, fun hs final => ?_, fun hs nack => ?_, fun hs ack more => ?_, fun hs ack final => ?_⟩
  · exact (perform_sentBitEnd run (.inr hs) last).trans (congrArg _ (if_neg more))
  · refine (perform_sentBitEnd run (.inr hs) last).trans (congrArg _ ((if_pos final).trans ?_))
    rw [hs]
    rfl
  · exact (answer hs).trans (symbolDone_of_dataRefused hs nack)
  · have acknowledged := (answer hs).trans (symbolDone_of_more hs ack more)
    have succ : (s.idx + 1).toNat = s.idx.toNat + 1 := toNat_succ (more.trans s.len.isLt)
    have inside : (s.idx + 1).toNat < s.par.txCap := succ ▸ more.trans_le fits
    obtain ⟨stored, unwritten⟩ := loadByte_either (s := inPhase 3 s.samp (false, true) s) inside
    rw [← succ]
    refine ⟨fun v hv => acknowledged.trans (stored v hv), fun hn => ?_⟩
    obtain ⟨v, n, loaded⟩ := unwritten hn
    exact ⟨v, n, acknowledged.trans loaded⟩
  · exact (answer hs).trans (symbolDone_of_final hs ack final.not_lt)

/-- Settles O38, row by row of the tables of R153 and R154. -/
theorem readDataPhaseGoesSymbolBySymbol : Obligations.ReadDataPhaseGoesSymbolBySymbol := by
  intro s sclT sdaT run last q nack
  have masterAnswer (hs : s.sym = .mack) {b : Bool} (sent : masterAck s = b) :
      perform (.fe sclT sdaT) s = symbolDone (inPhase 3 s.samp (false, b) s) := by
    rw [perform_bitEnd run (by rw [hs]; rfl) last, sentBit, hs, ← sent]
  refine ⟨fun hs => ⟨setBit s.shift s.bitc.toNat s.samp, fun j => getLsbD_setBit s.shift s.samp s.bitc.isLt, ?_⟩, fun hs clean more => ?_,
    fun hs final => ?_⟩
  · have received : perform (.fe sclT sdaT) s = symbolDone (inPhase 3 s.samp (false, true) s) := by
      rw [perform_bitEnd run (by rw [hs]; rfl) last, sentBit, hs]
    refine ⟨fun more => ?_, fun final empty => ?_, fun final full => ?_⟩
    · refine (received.trans (symbolDone_of_nextBit hs more)).trans ?_
      rw [← hs]
      rfl
    · exact received.trans (symbolDone_of_byteHeld hs final empty)
    · exact received.trans (symbolDone_of_byteLost hs final full)
  · have ack : masterAck s = false := by simp [masterAck, clean, more.ne]
    exact (masterAnswer hs ack).trans (symbolDone_of_readMore hs clean more)
  · exact (masterAnswer hs rfl).trans (symbolDone_of_readStop hs (final.imp_right Eq.not_lt))

/-- Settles O39: STOP and the hold by their last phase, the drain by its step. -/
theorem framesEndWithExactlyOneEvent : Obligations.FramesEndWithExactlyOneEvent := by
  intro s sclT sdaT q
  refine ⟨fun run hs last => ?_, fun run hs last error => ?_, fun run hs last clean released moved => ?_,
    fun run hs last clean released read full => ?_, fun drain empty => ?_, fun drain full => ?_⟩
  · exact perform_holdEnd run hs last
  · refine (perform_stopEnd run hs last fun clean => absurd clean error).trans (congrArg _ ?_)
    exact stopDone_of_error (s := inPhase s.phi s.samp (true, true) s) error
  · refine (perform_stopEnd run hs last fun _ => released).trans (congrArg _ ?_)
    exact stopDone_of_clean (s := inPhase s.phi s.samp (true, true) s) clean moved
  · refine (perform_stopEnd run hs last fun _ => released).trans (congrArg _ ?_)
    exact stopDone_of_full (s := inPhase s.phi s.samp (true, true) s) clean read full
  · simp [perform, feStep, drain, drainStep, empty, raiseEvent]
  · simp [perform, feStep, drain, drainStep, full]

end Sys2Proof.Machine
end

section
/-! The four causes of BusError (spec/41_bus_transport.md R157; spec/42_wire_protocol.md R182 to R186). -/

namespace Sys2Proof.Machine

/-- What makes the phase in progress end in BusError, with the target's drivers (R182 to R186). -/
def busErrorCause (s : State) (sclT sdaT : Bool) : Prop :=
  (s.sym = .s ∧ s.phi = 0 ∧ (sclT = false ∨ sdaT = false)) ∨
  (s.sym = .sr ∧ s.phi = 1 ∧ sclT = true ∧ sdaT = false) ∨
  (((s.sym = .txa ∨ s.sym = .txd) ∧ s.shift.getLsbD s.bitc.toNat = true ∨ s.sym = .mack ∧ s.idx.toNat + 1 = s.len.toNat)
    ∧ s.phi = 1 ∧ sclT = true ∧ sdaT = false ∧ s.errc = .none) ∨
  (s.sym = .p ∧ s.phi = 3 ∧ sdaT = false ∧ s.errc = .none)

/-- A stalled phase has none of the causes: the other phases do not stall, and these causes are sampled once SCL is high (R181 to R185). -/
theorem not_busErrorCause_of_stalled {s : State} {sclT sdaT : Bool} (stalled : (isRelease s.sym s.phi && !sclT) = true) :
    ¬ busErrorCause s sclT sdaT := by
  obtain ⟨release, low⟩ : isRelease s.sym s.phi = true ∧ sclT = false := by simpa using stalled
  rintro (⟨hs, -⟩ | ⟨-, -, high, -⟩ | ⟨-, -, high, -⟩ | ⟨hs, last, -⟩)
  · simp [hs, isRelease] at release
  · simp [low] at high
  · simp [low] at high
  · simp [hs, last, isRelease] at release

/-- The check of a phase that is performed finds exactly these causes, SCL and SDA being high where the engine releases them (R182 to R186). -/
theorem phaseBusError_iff {s : State} {sclT sdaT : Bool} {lines : Bool × Bool} (out : currentLines s = some lines)
    (performed : (isRelease s.sym s.phi && !sclT) = false) :
    phaseBusError s (level lines.1 sclT) (level lines.2 sdaT) = true ↔ busErrorCause s sclT sdaT := by
  have high (second : s.phi = 1) (releases : isRelease s.sym 1 = true) : sclT = true := by
    simpa [second, releases] using performed
  have sends (hs : s.sym = .txa ∨ s.sym = .txd ∨ s.sym = .mack) (second : s.phi = 1) : lines = (true, sentBit s) := by
    rcases hs with hs | hs | hs <;> simpa [currentLines, hs, second, phaseLines, eq_comm] using out
  unfold busErrorCause
  cases hy : s.sym
  case s =>
    by_cases first : s.phi = 0
    · obtain rfl : lines = (true, true) := by simpa [currentLines, hy, first, phaseLines, eq_comm] using out
      simp [phaseBusError, hy, first, level]
    · simp [phaseBusError, hy, first]
  case sr =>
    by_cases second : s.phi = 1
    · obtain rfl : lines = (true, true) := by simpa [currentLines, hy, second, phaseLines, eq_comm] using out
      simp [phaseBusError, hy, second, level, high second (by rw [hy]; rfl)]
    · simp [phaseBusError, hy, second]
  case txa | txd =>
    by_cases second : s.phi = 1
    · rw [sends (by simp [hy]) second]
      cases hb : s.shift.getLsbD s.bitc.toNat <;> simp [phaseBusError, hy, second, level, sentBit, hb, high second (by rw [hy]; rfl)]
    · simp [phaseBusError, hy, second]
  case mack =>
    by_cases second : s.phi = 1
    · rw [sends (by simp [hy]) second]
      by_cases clean : s.errc = .none
      · by_cases final : s.idx.toNat + 1 = s.len.toNat <;>
          simp [phaseBusError, hy, second, level, sentBit, masterAck, clean, final, high second (by rw [hy]; rfl)]
      · simp [phaseBusError, hy, clean]
    · simp [phaseBusError, hy, second]
  case p =>
    by_cases last : s.phi = 3
    · obtain rfl : lines = (true, true) := by simpa [currentLines, hy, last, phaseLines, eq_comm] using out
      simp [phaseBusError, hy, last, level]
    · simp [phaseBusError, hy, last]
  case acka | ackd | rxbit | h => simp [phaseBusError, hy]

theorem stopDone_event (s : State) : (stopDone s).evtp = s.evtp ∨ (stopDone s).evtp = .done ∨ (stopDone s).evtp = s.errc := by
  rcases stopDone_cases s with ⟨-, e⟩ | ⟨-, -, e⟩ | ⟨-, -, -, e⟩ <;> rw [e]
  · exact .inr (.inr rfl)
  · exact .inr (.inl rfl)
  · exact .inl rfl

theorem loadByte_event {i : Byte} {s t : State} (ht : loadByte i s = .next t) : t.evtp = s.evtp := by
  unfold loadByte at ht
  split at ht <;> cases ht
  rfl

theorem byteReceived_event (s : State) : (byteReceived s).evtp = s.evtp := by
  unfold byteReceived
  split <;> rfl

/-- The event a symbol's end leaves: no new one, `Done`, or the error classified before (R156 to R158). -/
theorem symbolDone_event {s t : State} (ht : symbolDone s = .next t) : t.evtp = s.evtp ∨ t.evtp = .done ∨ t.evtp = s.errc := by
  unfold symbolDone at ht
  split at ht
  case h_1 | h_2 => cases ht; exact .inl rfl
  case h_3 | h_5 => split at ht <;> cases ht <;> exact .inl rfl
  case h_4 =>
    split at ht
    · cases ht; exact .inl rfl
    · split at ht
      · exact .inl (loadByte_event ht)
      · cases ht; exact .inl rfl
  case h_6 =>
    split at ht
    · cases ht; exact .inl rfl
    · split at ht
      · exact .inl (loadByte_event ht)
      · split at ht <;> cases ht <;> exact .inl rfl
  case h_7 =>
    split at ht <;> cases ht
    · exact .inl (byteReceived_event _)
    · exact .inl rfl
  case h_8 =>
    split at ht
    · cases ht; exact .inl rfl
    · split at ht <;> cases ht <;> exact .inl rfl
  case h_9 => cases ht; exact stopDone_event s
  case h_10 => cases ht; exact .inr (.inl rfl)

/-- A phase performed without an error raises no BusError: none has been classified before it (R157, R161). -/
theorem event_of_cleanPhase {s t : State} {sclI sdaI : Bool} (quiet : s.evtp = .none) (fits : s.errc ≠ .busError)
    (clean : phaseBusError s sclI sdaI = false) (ht : performPhase sclI sdaI s = .next t) : t.evtp ≠ .busError := by
  simp only [performPhase, clean, Bool.false_eq_true, if_false, sample_eq] at ht
  split at ht
  · rcases symbolDone_event ht with event | event | event <;> rw [event]
    · simp [quiet]
    · simp
    · exact fits
  · cases ht
    simp [quiet]

/-- Settles O35: a stalled step has no cause and raises nothing; the check of a performed phase finds the causes. -/
theorem busErrorHasExactlyFourCauses : Obligations.BusErrorHasExactlyFourCauses := by
  intro s t sclT sdaT h run ht
  obtain ⟨-, quiet⟩ := outstanding_of_inFlight h (.inl run)
  have fits : s.errc ≠ .busError := fun error => by simpa [errorFits, error] using h.frame.error_fits run
  obtain ⟨lines, out⟩ := phaseLines_some (sentBit s) (h.frame.phase_exists run)
  show (t.evtp = .busError ↔ busErrorCause s sclT sdaT) ∧ (busErrorCause s sclT sdaT → _)
  simp only [perform, feStep, run, runStep_cases out] at ht
  split at ht
  · next stalled =>
    cases ht
    have none := not_busErrorCause_of_stalled (sdaT := sdaT) stalled
    exact ⟨by simp [none, drive, quiet], fun cause => absurd cause none⟩
  · next performed =>
    have found := phaseBusError_iff (sdaT := sdaT) out (Bool.eq_false_of_not_eq_true performed)
    cases check : phaseBusError s (level lines.1 sclT) (level lines.2 sdaT)
    · have none : ¬ busErrorCause s sclT sdaT := by simp [← found, check]
      have event := event_of_cleanPhase (s := drive lines s) quiet fits check ht
      exact ⟨by simp [none, event], fun cause => absurd cause none⟩
    · have ended : performPhase (level lines.1 sclT) (level lines.2 sdaT) (drive lines s) =
          .next (busErrorEnd { sample (level lines.2 sdaT) (drive lines s) with qcnt := phaseCycles s }) := if_pos check
      rw [sample_eq] at ended
      cases ended.symm.trans ht
      exact ⟨by simp [← found, check, busErrorEnd], fun _ => rfl⟩

end Sys2Proof.Machine
end

section
/-! Runs of the engine, and the end of a write frame (spec/41_bus_transport.md R151, R152, R156 to R158, R160; spec/42_wire_protocol.md R191). -/

namespace Sys2Proof.Machine

/-! ### Runs -/

theorem runMoves_trans {ms ns : List Move} {s u t : State} (first : runMoves ms s = .next u) (second : runMoves ns u = .next t) :
    runMoves (ms ++ ns) s = .next t := by
  induction ms generalizing s with
  | nil => cases first; exact second
  | cons m ms ih =>
    obtain ⟨v, hv, rest⟩ := chain_eq_next first
    rw [List.cons_append, runMoves, hv]
    exact ih rest

theorem runMoves_inv {ms : List Move} {s t : State} (h : Inv s) (ht : runMoves ms s = .next t) : Inv t := by
  induction ms generalizing s with
  | nil => cases ht; exact h
  | cons m ms ih =>
    obtain ⟨u, hu, rest⟩ := chain_eq_next ht
    exact ih (perform_inv h hu) rest

/-- Moves of the engine (R19). -/
def isEngineMove : Move → Bool
  | .fe _ _ => true
  | _       => false

/-- Over any number of its moves the engine writes its own registers only (R62). -/
theorem runMoves_effect {ms : List Move} {s t : State} (engine : ms.all isEngineMove = true) (ht : runMoves ms s = .next t) :
    EngineEffect s t := by
  induction ms generalizing s with
  | nil => cases ht; exact .refl _
  | cons m ms ih =>
    obtain ⟨u, hu, rest⟩ := chain_eq_next ht
    rw [List.all_cons, Bool.and_eq_true] at engine
    obtain ⟨first, later⟩ := engine
    cases m with
    | fe sclT sdaT => exact (feStep_effect hu).trans (ih later rest)
    | _ => cases first

@[simp] theorem quiet_engine (n : Nat) : (quiet n).all isEngineMove = true := by simp [quiet, isEngineMove]

@[simp] theorem sentByteMoves_engine (nack : Bool) : (sentByteMoves nack).all isEngineMove = true := by
  simp [sentByteMoves, heldBit, isEngineMove]

@[simp] theorem startMoves_engine (claimed : Bool) : (startMoves claimed).all isEngineMove = true := quiet_engine _

@[simp] theorem writeDataMoves_engine (nostop : Bool) (dacks : List Bool) : (writeDataMoves nostop dacks).all isEngineMove = true := by
  induction dacks using writeDataMoves.induct with
  | case1 => rfl
  | case2 | case3 => simp [writeDataMoves]
  | case4 _ _ ih => simp [writeDataMoves, ih]

theorem writeFrameMoves_engine (claimed nostop aack : Bool) (dacks : List Bool) :
    (writeFrameMoves claimed nostop aack dacks).all isEngineMove = true := by
  cases aack <;> simp [writeFrameMoves]

/-! ### How long a write frame is -/

@[simp] theorem sentByteMoves_length (nack : Bool) : (sentByteMoves nack).length = bytePhases := by
  simp [sentByteMoves, quiet, heldBit, bytePhases]

/-- The phases of the data part of a frame that runs to its end (R191). -/
theorem writeDataMoves_length {nostop : Bool} {dacks : List Bool} (some : dacks ≠ []) (acknowledged : true ∉ dacks) :
    (writeDataMoves nostop dacks).length = bytePhases * dacks.length + if nostop then 1 else 4 := by
  induction dacks using writeDataMoves.induct with
  | case1 => exact absurd rfl some
  | case2 => simp at acknowledged
  | case3 => simp [writeDataMoves, quiet]
  | case4 rest more ih =>
    have acknowledged : true ∉ rest := by simpa using acknowledged
    simp only [writeDataMoves, List.length_append, sentByteMoves_length, ih more acknowledged, List.length_cons]
    ring

theorem writeFrameMoves_length {claimed nostop : Bool} {dacks : List Bool} (some : dacks ≠ []) (acknowledged : true ∉ dacks) :
    (writeFrameMoves claimed nostop false dacks).length = framePhases claimed nostop dacks.length := by
  simp only [writeFrameMoves, startMoves, quiet, List.length_append, List.length_replicate, sentByteMoves_length, Bool.false_eq_true, if_false,
    writeDataMoves_length some acknowledged, framePhases]
  ring

/-! ### The end of a frame -/

section Ending

variable {s : State} (run : s.fes = .run) (start : s.phi = 0)
include run start

/-- STOP after an error ends the frame in that error (R157, R158). -/
theorem stop_after_error (hs : s.sym = .p) (error : s.errc ≠ .none) :
    ∃ t, runMoves (quiet 4) s = .next t ∧ t.fes = .idle ∧ t.evtp = s.errc := by
  refine ⟨_, (stop_segment run start hs).runs, ?_⟩
  rw [stopDone_of_error (s := inPhase 3 s.samp (true, true) s) error]
  exact ⟨rfl, rfl⟩

/-- STOP after a clean frame with no byte left to move ends it in `Done` (R157, R158). -/
theorem stop_after_clean (hs : s.sym = .p) (clean : s.errc = .none) (moved : s.dir = false ∨ s.rxv = false) :
    ∃ t, runMoves (quiet 4) s = .next t ∧ t.fes = .idle ∧ t.evtp = .done := by
  refine ⟨_, (stop_segment run start hs).runs, ?_⟩
  rw [stopDone_of_clean (s := inPhase 3 s.samp (true, true) s) clean moved]
  exact ⟨rfl, rfl⟩

end Ending

/-- The address byte refused: the frame ends in `AddressNack` (R151). -/
theorem addressRefused_ends {s : State} (begins : SendsByte .txa s) :
    ∃ t, runMoves (sentByteMoves true ++ quiet 4) s = .next t ∧ t.fes = .idle ∧ t.evtp = .addressNack := by
  have slot : (answered true s).sym = .acka := congrArg answerSlot begins.sym
  have refused := sentByte_segment begins (.inl rfl) (symbolDone_of_addressRefused slot rfl)
  obtain ⟨t, stopped, idle, event⟩ := stop_after_error
    (s := toSym .p { answered true s with errc := .addressNack }) begins.run rfl rfl Ev.noConfusion
  exact ⟨t, runMoves_trans refused.runs stopped, idle, event⟩

/-- A data byte refused: the frame ends in `DataNack` (R152). -/
theorem dataRefused_ends {s : State} (begins : SendsByte .txd s) :
    ∃ t, runMoves (sentByteMoves true ++ quiet 4) s = .next t ∧ t.fes = .idle ∧ t.evtp = .dataNack := by
  have slot : (answered true s).sym = .ackd := congrArg answerSlot begins.sym
  have refused := sentByte_segment begins (.inr rfl) (symbolDone_of_dataRefused slot rfl)
  obtain ⟨t, stopped, idle, event⟩ := stop_after_error
    (s := toSym .p { answered true s with errc := .dataNack }) begins.run rfl rfl Ev.noConfusion
  exact ⟨t, runMoves_trans refused.runs stopped, idle, event⟩

/-- The last data byte acknowledged: the frame ends in `Done`, with STOP or with the bus held (R152, R156, R158). -/
theorem finalByte_ends {s : State} (begins : SendsByte .txd s) (write : s.dir = false) (clean : s.errc = .none)
    (final : ¬ s.idx.toNat + 1 < s.len.toNat) :
    ∃ t, runMoves (sentByteMoves false ++ quiet (if s.nostop then 1 else 4)) s = .next t ∧
      t.fes = (if s.nostop then .held else .idle) ∧ t.evtp = .done := by
  have slot : (answered false s).sym = .ackd := congrArg answerSlot begins.sym
  have byte := sentByte_segment begins (.inr rfl) (symbolDone_of_final slot rfl final)
  cases nostop : s.nostop
  · obtain ⟨t, stopped, idle, event⟩ := stop_after_clean (s := toSym (if s.nostop = true then .h else .p) (answered false s))
      begins.run rfl (if_neg (by simp [nostop])) clean (.inl write)
    exact ⟨t, runMoves_trans byte.runs stopped, idle, event⟩
  · have hold := hold_segment (s := toSym (if s.nostop = true then .h else .p) (answered false s)) begins.run rfl (if_pos nostop)
    exact ⟨_, runMoves_trans byte.runs hold.runs, rfl, rfl⟩

/-! ### From byte to byte -/

/-- `u` stands at the first bit of data byte `i` of the frame in progress in `s`. -/
structure SendsNext (s : State) (i : Byte) (u : State) : Prop where
  begins : SendsByte .txd u
  idx : u.idx = i
  len : u.len = s.len
  nostop : u.nostop = s.nostop

/-- A byte inside `TXB` is loaded and sent, whether something has written it or not (R84). -/
theorem loadByte_sends {i : Byte} {s : State} (run : s.fes = .run) (inside : i.toNat < s.par.txCap) :
    ∃ u, loadByte i (answered false s) = .next u ∧ SendsNext s i u :=
  ⟨_, loadByte_next inside, ⟨run, rfl, rfl, rfl⟩, rfl, rfl, rfl⟩

theorem addressByte_runs {s : State} (begins : SendsByte .txa s) (write : s.dir = false) :
    ∃ u, runMoves (sentByteMoves false) s = .next u ∧ SendsNext s 0 u := by
  have slot : (answered false s).sym = .acka := congrArg answerSlot begins.sym
  obtain ⟨u, loaded, next⟩ := loadByte_sends (i := 0) begins.run (Nat.succ_pos _)
  exact ⟨u, (sentByte_segment begins (.inl rfl) ((symbolDone_of_addressed slot rfl write).trans loaded)).runs, next⟩

theorem dataByte_runs {s : State} (begins : SendsByte .txd s) (more : s.idx.toNat + 1 < s.len.toNat)
    (inside : (s.idx + 1).toNat < s.par.txCap) : ∃ u, runMoves (sentByteMoves false) s = .next u ∧ SendsNext s (s.idx + 1) u := by
  have slot : (answered false s).sym = .ackd := congrArg answerSlot begins.sym
  obtain ⟨u, loaded, next⟩ := loadByte_sends begins.run inside
  exact ⟨u, (sentByte_segment begins (.inr rfl) ((symbolDone_of_more slot rfl more).trans loaded)).runs, next⟩

/-- What a write frame ends in, given the answers to its data bytes (R152, R156 to R158). -/
structure WriteEnds (nostop : Bool) (dacks : List Bool) (t : State) : Prop where
  event : t.evtp = if true ∈ dacks then .dataNack else .done
  held : true ∉ dacks → nostop = true → t.fes = .held
  stopped : true ∈ dacks ∨ nostop = false → t.fes = .idle

/-- From the first bit of a data byte to the end of the frame: byte by byte, up to the first that is refused (R152). -/
theorem writeData_ends {dacks : List Bool} {s : State} {nack : Bool} (h : Inv s) (begins : SendsByte .txd s)
    (count : s.idx.toNat + 1 + dacks.length = s.len.toNat) :
    ∃ t, runMoves (writeDataMoves s.nostop (nack :: dacks)) s = .next t ∧ WriteEnds s.nostop (nack :: dacks) t := by
  have write : s.dir = false := h.frame.write_symbols begins.run (.inl begins.sym)
  induction dacks generalizing s nack with
  | nil =>
    cases nack
    · have clean := errc_none h begins.run (by simp [begins.sym])
      obtain ⟨t, runs, ends, event⟩ := finalByte_ends begins write clean count.not_lt
      exact ⟨t, runs, by simpa using event, by simp_all, by simp_all⟩
    · obtain ⟨t, runs, idle, event⟩ := dataRefused_ends begins
      exact ⟨t, runs, by simpa using event, by simp, fun _ => idle⟩
  | cons nack' dacks ih =>
    cases nack
    · rw [List.length_cons] at count
      obtain ⟨outstanding, -⟩ := outstanding_of_inFlight h (.inl begins.run)
      have fits : s.len.toNat ≤ s.par.txCap := by simpa [write, frameCap] using (h.frame.len_fits outstanding).2
      have succ : (s.idx + 1).toNat = s.idx.toNat + 1 := toNat_succ (by omega)
      obtain ⟨u, sent, next⟩ := dataByte_runs begins (by omega) (by omega)
      have hu := runMoves_inv h sent
      obtain ⟨t, rest, ends⟩ := ih (nack := nack') hu next.begins (by rw [next.idx, next.len, succ]; omega)
        (hu.frame.write_symbols next.begins.run (.inl next.begins.sym))
      rw [next.nostop] at rest ends
      exact ⟨t, runMoves_trans sent rest, by simpa using ends.event, by simpa using ends.held, by simpa using ends.stopped⟩
    · obtain ⟨t, runs, idle, event⟩ := dataRefused_ends begins
      exact ⟨t, runs, by simpa using event, by simp, fun _ => idle⟩

/-- From the launch to the end of a write frame (R160). -/
theorem writeFrame_ends {s : State} {aack : Bool} {dacks : List Bool} (h : Inv s) (run : s.fes = .run) (first : s.sym = .s ∨ s.sym = .sr)
    (start : s.phi = 0) (write : s.dir = false) (answers : dacks.length = s.len.toNat) :
    ∃ t, runMoves (writeFrameMoves s.claimed s.nostop aack dacks) s = .next t ∧
      (aack = true → t.evtp = .addressNack ∧ t.fes = .idle) ∧ (aack = false → WriteEnds s.nostop dacks t) := by
  obtain ⟨-, started⟩ := start_segment h run first start
  have begins := addressBegun_begins run
  rw [writeFrameMoves, List.append_assoc]
  cases aack
  · have some := (h.frame.len_fits (outstanding_of_inFlight h (.inl run)).1).1
    obtain ⟨nack, dacks, rfl⟩ := List.exists_cons_of_length_pos (answers ▸ some)
    obtain ⟨u, addressed, next⟩ := addressByte_runs begins write
    have hu := runMoves_inv (runMoves_inv h started.runs) addressed
    have len : u.len = s.len := next.len
    obtain ⟨t, data, ends⟩ := writeData_ends (dacks := dacks) (nack := nack) hu next.begins
      (by rw [next.idx, len, ← answers]; simp [Nat.add_comm])
    rw [next.nostop] at data ends
    exact ⟨t, runMoves_trans started.runs (runMoves_trans addressed data), by simp, fun _ => ends⟩
  · obtain ⟨t, refused, idle, event⟩ := addressRefused_ends begins
    exact ⟨t, runMoves_trans started.runs refused, fun _ => ⟨event, idle⟩, by simp⟩

/-- Settles O54: the frame's end by its answers; what the engine does not write stands; the lines and the claim by the invariant. -/
theorem writeFramesEndAsTheFrameFunctionSays : Obligations.WriteFramesEndAsTheFrameFunctionSays := by
  intro s aack dacks h run first start write answers
  obtain ⟨outstanding, -⟩ := outstanding_of_inFlight h (.inl run)
  obtain ⟨t, runs, refused, ends⟩ := writeFrame_ends (aack := aack) h run first start write answers
  have ht := runMoves_inv h runs
  have effect := runMoves_effect (writeFrameMoves_engine ..) runs
  have keeps {α : Type} (part : State → α) (blind : ∀ u, part (withEngineOf u s) = part s) : part t = part s := effect.keeps part blind
  refine ⟨t, runs, ?_, fun addressed acknowledged hold => ?_, fun stops => ?_, (keeps (·.busy) fun _ => rfl).trans outstanding,
    keeps (·.cflag) fun _ => rfl, keeps (·.txb) fun _ => rfl, keeps (·.rxb) fun _ => rfl, fun addressed acknowledged => ?_⟩
  · cases aack
    · exact (ends rfl).event
    · exact (refused rfl).1
  · have held := (ends addressed).held acknowledged hold
    exact ⟨held, ht.frame.held_claimed held⟩
  · have idle : t.fes = .idle := by
      cases aack
      · exact (ends rfl).stopped (stops.resolve_left (by simp))
      · exact (refused rfl).2
    exact ⟨idle, ht.frame.released_unclaimed (.inl idle)⟩
  · have some := (h.frame.len_fits outstanding).1
    rw [addressed, ← answers]
    exact writeFrameMoves_length (List.ne_nil_of_length_pos (answers ▸ some)) acknowledged

end Sys2Proof.Machine
end

section
/-! Read frames: the bytes received, the mover in time or late, and the end of the frame (spec/20_memory.md R97; spec/41_bus_transport.md R151,
R153 to R155, R157, R158, R160). -/

namespace Sys2Proof.Machine

/-! ### The bits of a byte -/

/-- A data bit the target sends: the master sends nothing, and SDA is sampled (R176). -/
theorem receivedBit_segment {s t : State} {v : Bool} (run : s.fes = .run) (start : s.phi = 0) (hs : s.sym = .rxbit)
    (ht : symbolDone (inPhase 3 v (false, true) s) = .next t) : Segment (heldBit v) s (bitLevels v) t :=
  bit_segment run start (by rw [hs]; rfl) (by rw [sentBit, hs]) (Bool.true_and v) (by simp [phaseBusError, hs]) ht

/-- All bits of `b` are in `SHIFT`, at the end of the last of them (R153). -/
def shiftedIn (b : Byte) (s : State) : State :=
  { s with sym := .rxbit, phi := 3, samp := b.getLsbD 0, shift := b, bitc := 0, sclO := false, sdaO := true, qcnt := phaseCycles s }

/-- The last bit completes the byte, its upper bits being in place (R153). -/
theorem setBit_completes {shift b : Byte} (above : ∀ j < 8, 0 < j → shift.getLsbD j = b.getLsbD j) : setBit shift 0 (b.getLsbD 0) = b := by
  refine BitVec.eq_of_getLsbD_eq fun j hj => ?_
  rw [getLsbD_setBit shift _ (by omega) hj]
  split
  · next first => rw [first]
  · next later => exact above j hj (Nat.pos_of_ne_zero later)

/-- The next bit of the byte in progress in `s`, after one received as `v` (R153). -/
def nextBitIn (v : Bool) (s : State) : State :=
  { s with sym := .rxbit, phi := 0, samp := v, shift := setBit s.shift s.bitc.toNat v, bitc := s.bitc - 1,
           sclO := false, sdaO := true, qcnt := phaseCycles s }

theorem shiftedIn_nextBitIn (b : Byte) (v : Bool) (s : State) : shiftedIn b (nextBitIn v s) = shiftedIn b s := rfl

theorem symbolDone_of_bitIn {v : Bool} {s : State} (hs : s.sym = .rxbit) (more : s.bitc ≠ 0) :
    symbolDone (inPhase 3 v (false, true) s) = .next (nextBitIn v s) := by
  rw [symbolDone_of_nextBit (s := inPhase 3 v (false, true) s) hs more]
  simp only [toSym, bitReceived, inPhase, phaseCycles, nextBitIn]

/-- From bit `n` of a byte on, the bits above being in place: the byte is complete (R153, R154). -/
theorem receivedBits_runs {n : Nat} {b : Byte} {s : State} (run : s.fes = .run) (start : s.phi = 0) (hs : s.sym = .rxbit)
    (position : s.bitc.toNat = n) (above : ∀ j < 8, n < j → s.shift.getLsbD j = b.getLsbD j) :
    runMoves ((bitsDownFrom b n).flatMap heldBit) s = .next (toSym .mack (byteReceived (shiftedIn b s))) := by
  induction n generalizing s with
  | zero =>
    have last : s.bitc = 0 := BitVec.eq_of_toNat_eq position
    have whole : bitReceived (inPhase 3 (b.getLsbD 0) (false, true) s) = shiftedIn b s := by
      simp only [bitReceived, inPhase, position, setBit_completes above]
      rw [shiftedIn, ← hs, ← last]
    have done := (symbolDone_of_receivedBit (s := inPhase 3 (b.getLsbD 0) (false, true) s) hs).trans (congrArg _ (if_pos last))
    rw [whole] at done
    exact (receivedBit_segment run start hs done).runs
  | succ n ih =>
    have more : s.bitc ≠ 0 := fun h => by simp [h] at position
    have down : (s.bitc - 1).toNat = n := by bv_omega
    have bit := receivedBit_segment run start hs (symbolDone_of_bitIn (v := b.getLsbD (n + 1)) hs more)
    rw [bitsDownFrom, List.flatMap_cons, ← shiftedIn_nextBitIn b (b.getLsbD (n + 1)) s]
    refine runMoves_trans bit.runs (ih (s := nextBitIn (b.getLsbD (n + 1)) s) run rfl rfl down fun j hj higher => ?_)
    have inside : s.bitc.toNat < 8 := s.bitc.isLt
    show (setBit s.shift s.bitc.toNat (b.getLsbD (n + 1))).getLsbD j = b.getLsbD j
    rw [getLsbD_setBit _ _ inside hj, position]
    split
    · next here => rw [here]
    · next there => exact above j hj (by omega)

/-! ### What the buffer holds -/

/-- `m` holds the bytes from index 0 on, and is `m0` elsewhere (R97). -/
def holdsBytes (bytes : List Byte) (m m0 : Memory) : Prop :=
  ∀ j, Memory.get m j = if j < bytes.length then bytes[j]? else Memory.get m0 j

theorem holdsBytes_nil (m : Memory) : holdsBytes [] m m := fun _ => rfl

/-- One more byte, at its place (R97, R155). -/
theorem holdsBytes_put {bytes : List Byte} {m m0 : Memory} (h : holdsBytes bytes m m0) (b : Byte) :
    holdsBytes (bytes ++ [b]) (Memory.put m bytes.length b) m0 := by
  intro j
  rw [Memory.get_put, h j, List.length_append, List.length_singleton]
  rcases lt_trichotomy j bytes.length with before | rfl | after
  · rw [if_neg before.ne, if_pos before, if_pos (by omega), List.getElem?_append_left before]
  · simp
  · rw [if_neg after.ne', if_neg (by omega), if_neg (by omega)]

/-! ### From byte to byte -/

/-- The engine stands at the first bit of a byte it receives (R150). -/
structure ReceivesByte (s : State) : Prop where
  run : s.fes = .run
  start : s.phi = 0
  sym : s.sym = .rxbit
  full : s.bitc = 7

section MasterAnswer

variable {s : State} (run : s.fes = .run) (start : s.phi = 0) (hs : s.sym = .mack)
include run start hs

/-- The master's ACK slot, the target leaving the lines alone (R154, R176). -/
theorem masterAnswer_runs {t : State} (ht : symbolDone (inPhase 3 (masterAck s) (false, masterAck s) s) = .next t) :
    runMoves (quiet 4) s = .next t := by
  have sent (phi : Fin 4) : sentBit { s with phi := phi } = masterAck s := by
    rw [sentBit, hs]
    rfl
  have undisturbed {u : State} (hu : u.sym = .mack) : phaseBusError u true (sentBit u) = false := by simp [phaseBusError, hu]
  have slot : Segment (quiet 4) s (bitLevels (masterAck s)) t := by
    refine bit_segment run start (by rw [hs]; rfl) (sent s.phi) (Bool.and_true _) ?_ ht
    rw [← sent 1]
    exact undisturbed hs
  exact slot.runs

/-- ACK, and on to the next byte (R154). -/
theorem ackThenNext_runs (clean : s.errc = .none) (more : s.idx.toNat + 1 < s.len.toNat) : ∃ u, runMoves (quiet 4) s = .next u ∧
    ReceivesByte u ∧ u.rxv = s.rxv ∧ u.idx = s.idx + 1 ∧ u.len = s.len ∧ u.rxb = s.rxb :=
  ⟨_, masterAnswer_runs run start hs (symbolDone_of_readMore hs clean more), ⟨run, rfl, rfl, rfl⟩, rfl, rfl, rfl, rfl⟩

/-- NACK and STOP after a byte lost (R154, R158). -/
theorem nackThenStop_after_error (error : s.errc ≠ .none) : ∃ t, runMoves (quiet 4 ++ quiet 4) s = .next t ∧
    t.fes = .idle ∧ t.evtp = s.errc ∧ t.rxb = s.rxb := by
  obtain ⟨t, stopped, idle, event⟩ := stop_after_error
    (s := toSym .p (inPhase 3 (masterAck s) (false, masterAck s) s)) run rfl rfl error
  have runs := runMoves_trans (masterAnswer_runs run start hs (symbolDone_of_readStop hs (.inl error))) stopped
  exact ⟨t, runs, idle, event, (runMoves_effect (by simp) runs).keeps (·.rxb) fun _ => rfl⟩

/-- NACK and STOP after the last byte, which has been moved (R154, R158). -/
theorem nackThenStop_after_last (clean : s.errc = .none) (empty : s.rxv = false) (final : s.idx.toNat + 1 = s.len.toNat) :
    ∃ t, runMoves (quiet 4 ++ quiet 4) s = .next t ∧ t.fes = .idle ∧ t.evtp = .done ∧ t.rxb = s.rxb := by
  obtain ⟨t, stopped, idle, event⟩ := stop_after_clean
    (s := toSym .p (inPhase 3 (masterAck s) (false, masterAck s) s)) run rfl rfl clean (.inr empty)
  have runs := runMoves_trans (masterAnswer_runs run start hs (symbolDone_of_readStop hs (.inr final.not_lt))) stopped
  exact ⟨t, runs, idle, event, (runMoves_effect (by simp) runs).keeps (·.rxb) fun _ => rfl⟩

end MasterAnswer

/-- A byte received into the empty holding register, the engine at the master's ACK slot (R154). -/
def byteHeld (b : Byte) (s : State) : State :=
  { s with sym := .mack, phi := 0, samp := b.getLsbD 0, shift := b, bitc := 0, sclO := false, sdaO := true, qcnt := phaseCycles s,
           rxd := b, rxv := true }

/-- A byte lost, the holding register being full, the engine at the master's ACK slot (R154). -/
def byteLost (b : Byte) (s : State) : State :=
  { s with sym := .mack, phi := 0, samp := b.getLsbD 0, shift := b, bitc := 0, sclO := false, sdaO := true, qcnt := phaseCycles s,
           errc := .overrun }

@[simp] theorem byteHeld_fes (b : Byte) (s : State) : (byteHeld b s).fes = s.fes := rfl
@[simp] theorem byteHeld_errc (b : Byte) (s : State) : (byteHeld b s).errc = s.errc := rfl
@[simp] theorem byteHeld_idx (b : Byte) (s : State) : (byteHeld b s).idx = s.idx := rfl
@[simp] theorem byteHeld_len (b : Byte) (s : State) : (byteHeld b s).len = s.len := rfl
@[simp] theorem byteHeld_rxb (b : Byte) (s : State) : (byteHeld b s).rxb = s.rxb := rfl
@[simp] theorem byteHeld_ridx (b : Byte) (s : State) : (byteHeld b s).ridx = s.ridx := rfl
@[simp] theorem byteHeld_rxd (b : Byte) (s : State) : (byteHeld b s).rxd = b := rfl
@[simp] theorem byteHeld_rxv (b : Byte) (s : State) : (byteHeld b s).rxv = true := rfl
@[simp] theorem byteHeld_sym (b : Byte) (s : State) : (byteHeld b s).sym = .mack := rfl
@[simp] theorem byteHeld_phi (b : Byte) (s : State) : (byteHeld b s).phi = 0 := rfl

section Byte

variable {s : State} (receives : ReceivesByte s) (b : Byte)
include receives

theorem receivedByte_runs : runMoves (receivedBits b) s = .next (toSym .mack (byteReceived (shiftedIn b s))) := by
  obtain ⟨run, start, hs, full⟩ := receives
  rw [receivedBits, ← bitsDownFrom_seven]
  exact receivedBits_runs run start hs (congrArg BitVec.toNat full) fun j hj higher => by omega

theorem heldByte_runs (empty : s.rxv = false) : runMoves (receivedBits b) s = .next (byteHeld b s) := by
  rw [receivedByte_runs receives, byteReceived_of_empty (s := shiftedIn b s) empty]
  rfl

theorem lostByte_runs (full : s.rxv = true) : runMoves (receivedBits b) s = .next (byteLost b s) := by
  rw [receivedByte_runs receives, byteReceived_of_full (s := shiftedIn b s) full]
  rfl

/-- A byte received with the mover in time, up to the master's ACK slot (R154, R155). -/
theorem movedByte_runs (h : Inv s) (empty : s.rxv = false) :
    runMoves (receivedBits b ++ [.mover]) s = .next (byteMoved (byteHeld b s)) := by
  have held := heldByte_runs receives b empty
  exact runMoves_trans held (congrArg (chain · _) (perform_mover_of_full (runMoves_inv h held) rfl))

end Byte

/-- `u` stands at the first bit of a byte of the read frame launched in `s`, those before it being moved to their places (R97, R153 to R155). -/
structure HasReceived (s : State) (bytes : List Byte) (u : State) : Prop where
  inv : Inv u
  receives : ReceivesByte u
  empty : u.rxv = false
  idx : u.idx.toNat = bytes.length
  len : u.len = s.len
  stored : holdsBytes bytes u.rxb s.rxb

namespace HasReceived

variable {s u : State} {bytes : List Byte}

theorem clean (r : HasReceived s bytes u) : u.errc = .none := errc_none r.inv r.receives.run (by simp [r.receives.sym])

/-- As many bytes have left the engine as came before (R154, R155). -/
theorem ridx (r : HasReceived s bytes u) : u.ridx.toNat = bytes.length := by
  have read := r.inv.frame.read_symbols r.receives.run (.inl r.receives.sym)
  have count := r.inv.frame.none_lost (.inl r.receives.run) read r.clean
  simpa [receivedBound, r.receives.run, r.receives.sym, r.empty, r.idx] using count

/-- The byte in progress lands in its place (R97, R155). -/
theorem moved (r : HasReceived s bytes u) (b : Byte) : holdsBytes (bytes ++ [b]) (byteMoved (byteHeld b u)).rxb s.rxb := by
  rw [byteMoved_rxb, byteHeld_rxb, byteHeld_ridx, byteHeld_rxd, r.ridx]
  exact holdsBytes_put r.stored b

/-- One more byte that is not the last, the mover in time (R154, R155). -/
theorem next (r : HasReceived s bytes u) (b : Byte) (more : bytes.length + 1 < s.len.toNat) :
    ∃ v, runMoves (movedByteMoves b) u = .next v ∧ HasReceived s (bytes ++ [b]) v := by
  have more : u.idx.toNat + 1 < u.len.toNat := by rw [r.idx, r.len]; exact more
  have succ : (u.idx + 1).toNat = u.idx.toNat + 1 := toNat_succ (more.trans u.len.isLt)
  obtain ⟨v, answered, receives, empty, idx, len, rxb⟩ := ackThenNext_runs (s := byteMoved (byteHeld b u))
    (by simpa using r.receives.run) (by simp) (by simp) (by simpa using r.clean) (by simpa using more)
  have runs := runMoves_trans (movedByte_runs r.receives b r.inv r.empty) answered
  refine ⟨v, runs, runMoves_inv r.inv runs, receives, by simpa using empty, ?_, ?_, rxb ▸ r.moved b⟩
  · rw [idx, List.length_append, ← r.idx, byteMoved_idx, byteHeld_idx]
    exact succ
  · rw [len, byteMoved_len, byteHeld_len, r.len]

/-- Any number of bytes, the last one of the frame not among them, the mover in time for each (R154, R155). -/
theorem more (r : HasReceived s bytes u) (later : List Byte) (inside : bytes.length + later.length < s.len.toNat) :
    ∃ v, runMoves (later.flatMap movedByteMoves) u = .next v ∧ HasReceived s (bytes ++ later) v := by
  induction later generalizing bytes u with
  | nil => exact ⟨u, rfl, by simpa using r⟩
  | cons b later ih =>
    rw [List.length_cons] at inside
    obtain ⟨v, first, rv⟩ := r.next b (by omega)
    obtain ⟨w, rest, received⟩ := ih rv (by rw [List.length_append, List.length_singleton]; omega)
    exact ⟨w, runMoves_trans first rest, by simpa using received⟩

/-- The last byte, the mover in time: NACK, STOP, and the frame ends in `Done` with the byte in its place (R154, R158). -/
theorem last (r : HasReceived s bytes u) (b : Byte) (final : bytes.length + 1 = s.len.toNat) :
    ∃ t, runMoves (movedByteMoves b ++ quiet 4) u = .next t ∧ t.fes = .idle ∧ t.evtp = .done ∧ holdsBytes (bytes ++ [b]) t.rxb s.rxb := by
  have final : u.idx.toNat + 1 = u.len.toNat := by rw [r.idx, r.len]; exact final
  obtain ⟨t, ended, idle, event, rxb⟩ := nackThenStop_after_last (s := byteMoved (byteHeld b u))
    (by simpa using r.receives.run) (by simp) (by simp) (by simpa using r.clean) (by simp) (by simpa using final)
  refine ⟨t, ?_, idle, event, rxb ▸ r.moved b⟩
  rw [movedByteMoves, List.append_assoc]
  exact runMoves_trans (movedByte_runs r.receives b r.inv r.empty) ended

/-- A byte that is not the last, received but not moved, and the byte after it, which is lost: NACK, STOP and `Overrun` (R154, R158). -/
theorem late (r : HasReceived s bytes u) (held lost : Byte) (more : bytes.length + 1 < s.len.toNat) :
    ∃ t, runMoves (unmovedByteMoves held ++ (unmovedByteMoves lost ++ quiet 4)) u = .next t ∧
      t.fes = .idle ∧ t.evtp = .overrun ∧ holdsBytes bytes t.rxb s.rxb := by
  have more : u.idx.toNat + 1 < u.len.toNat := by rw [r.idx, r.len]; exact more
  obtain ⟨v, answered, receives, full, -, -, rxb⟩ := ackThenNext_runs (s := byteHeld held u) r.receives.run rfl rfl r.clean more
  obtain ⟨t, ended, idle, event, rxb'⟩ := nackThenStop_after_error (s := byteLost lost v) receives.run rfl rfl Ev.noConfusion
  refine ⟨t, ?_, idle, event, ?_⟩
  · refine runMoves_trans (runMoves_trans (heldByte_runs r.receives held r.empty) answered) ?_
    rw [unmovedByteMoves, List.append_assoc]
    exact runMoves_trans (lostByte_runs receives lost full) ended
  · have kept : t.rxb = u.rxb := rxb'.trans rxb
    exact kept ▸ r.stored

end HasReceived

/-! ### The frame -/

/-- The address byte of a read acknowledged: the engine is at the first bit of the first byte (R151). -/
theorem readAddressed_runs {s : State} (begins : SendsByte .txa s) (read : s.dir = true) : ∃ u, runMoves (sentByteMoves false) s = .next u ∧
    ReceivesByte u ∧ u.rxv = s.rxv ∧ u.idx = 0 ∧ u.len = s.len ∧ u.rxb = s.rxb := by
  have slot : (answered false s).sym = .acka := congrArg answerSlot begins.sym
  exact ⟨_, (sentByte_segment begins (.inl rfl) (symbolDone_of_readAddressed slot rfl read)).runs, ⟨begins.run, rfl, rfl, rfl⟩,
    rfl, rfl, rfl, rfl⟩

section Frame

variable {s : State} (h : Inv s) (run : s.fes = .run) (first : s.sym = .s ∨ s.sym = .sr) (start : s.phi = 0)
include h run first start

/-- The address of a read frame acknowledged (R151). -/
theorem readBegins_runs (read : s.dir = true) :
    ∃ u, runMoves (startMoves s.claimed ++ sentByteMoves false) s = .next u ∧ HasReceived s [] u := by
  obtain ⟨-, started⟩ := start_segment h run first start
  obtain ⟨u, address, receives, same, idx, len, rxb⟩ := readAddressed_runs (addressBegun_begins run) read
  have runs := runMoves_trans started.runs address
  have empty : s.rxv = false := by
    obtain ⟨-, count⟩ := none_received h run (by tauto)
    have none := count read
    cases full : s.rxv <;> simp_all
  exact ⟨u, runs, runMoves_inv h runs, receives, same.trans empty, by rw [idx]; rfl, len, by rw [rxb]; exact holdsBytes_nil _⟩

/-- The address of a read frame refused (R151, R160). -/
theorem readRefused_ends (rdata : List Byte) : ∃ t, runMoves (readFrameMoves s.claimed true rdata) s = .next t ∧
    t.fes = .idle ∧ t.evtp = .addressNack ∧ t.rxb = s.rxb := by
  obtain ⟨-, started⟩ := start_segment h run first start
  obtain ⟨t, refused, idle, event⟩ := addressRefused_ends (addressBegun_begins run)
  have runs := runMoves_trans started.runs refused
  exact ⟨t, by simpa [readFrameMoves] using runs, idle, event, (runMoves_effect (by simp) runs).keeps (·.rxb) fun _ => rfl⟩

/-- The whole frame with the mover in time: each byte in its place (R97, R160). -/
theorem readFrame_ends (read : s.dir = true) {rdata : List Byte} (length : rdata.length = s.len.toNat) :
    ∃ t, runMoves (readFrameMoves s.claimed false rdata) s = .next t ∧
      t.fes = .idle ∧ t.evtp = .done ∧ holdsBytes rdata t.rxb s.rxb := by
  have some := (h.frame.len_fits (outstanding_of_inFlight h (.inl run)).1).1
  obtain ⟨before, b, rfl⟩ := List.eq_nil_or_concat' rdata |>.resolve_left (List.ne_nil_of_length_pos (length ▸ some))
  rw [List.length_append, List.length_singleton] at length
  obtain ⟨u, begun, received⟩ := readBegins_runs h run first start read
  obtain ⟨v, moved, received⟩ := received.more before (by rw [List.length_nil]; omega)
  obtain ⟨t, ended, idle, event, stored⟩ := received.last b (by simpa using length)
  refine ⟨t, ?_, idle, event, by simpa using stored⟩
  simpa [readFrameMoves] using runMoves_trans begun (runMoves_trans moved ended)

/-- The frame with a mover that is late for the byte after `moved` (R154, R160). -/
theorem lateReadFrame_ends (read : s.dir = true) {moved : List Byte} (late lost : Byte) (some : moved.length + 2 ≤ s.len.toNat) :
    ∃ t, runMoves (lateReadFrameMoves s.claimed moved late lost) s = .next t ∧
      t.fes = .idle ∧ t.evtp = .overrun ∧ holdsBytes moved t.rxb s.rxb := by
  obtain ⟨u, begun, received⟩ := readBegins_runs h run first start read
  obtain ⟨v, runs, received⟩ := received.more moved (by rw [List.length_nil]; omega)
  obtain ⟨t, ended, idle, event, stored⟩ := received.late late lost (by rw [List.nil_append]; omega)
  refine ⟨t, ?_, idle, event, by simpa using stored⟩
  simpa [lateReadFrameMoves] using runMoves_trans begun (runMoves_trans runs ended)

end Frame

/-- How a frame that has ended with STOP leaves the bus and the registers (R40, R157, R158). -/
theorem ended_with_stop {t : State} (h : Inv t) (idle : t.fes = .idle) (event : t.evtp ≠ .none) :
    t.claimed = false ∧ t.sclO = true ∧ t.sdaO = true ∧ t.rxv = false ∧ t.busy = true := by
  obtain ⟨free, scl, sda⟩ := h.frame.released_unclaimed (.inl idle)
  obtain ⟨outstanding, -, empty⟩ := h.arbiter.pending_over event
  exact ⟨free, scl, sda, empty, outstanding⟩

/-- Settles O55: byte by byte for an address acknowledged; the lines and the holding register by the invariant. -/
theorem readFramesDeliverTheirBytes : Obligations.ReadFramesDeliverTheirBytes := by
  intro s aack rdata h run first start read length
  cases aack
  · obtain ⟨t, runs, idle, event, stored⟩ := readFrame_ends h run first start read length
    obtain ⟨free, scl, sda, empty, outstanding⟩ := ended_with_stop (runMoves_inv h runs) idle (by simp [event])
    exact ⟨t, runs, idle, free, scl, sda, empty, outstanding, event, fun _ => stored, by simp⟩
  · obtain ⟨t, runs, idle, event, rxb⟩ := readRefused_ends h run first start rdata
    obtain ⟨free, scl, sda, empty, outstanding⟩ := ended_with_stop (runMoves_inv h runs) idle (by simp [event])
    exact ⟨t, runs, idle, free, scl, sda, empty, outstanding, event, by simp, fun _ => rxb⟩

/-- Settles O56: the byte not moved fills the holding register, and the next one is lost. -/
theorem aLateMoverEndsTheReadInOverrun : Obligations.ALateMoverEndsTheReadInOverrun := by
  intro s moved late lost h run first start read some
  obtain ⟨t, runs, idle, event, stored⟩ := lateReadFrame_ends h run first start read late lost some
  obtain ⟨free, scl, sda, empty, -⟩ := ended_with_stop (runMoves_inv h runs) idle (by simp [event])
  exact ⟨t, runs, event, idle, free, scl, sda, empty, stored⟩

end Sys2Proof.Machine
end

section
/-! One step of the running engine: the lines it drives, how the phase ends, and what a target that holds SCL does (spec/42_wire_protocol.md R172 to
R182, R188). -/

namespace Sys2Proof.Machine

/-! ### The table of lines -/

/-- The phases of a symbol that carries the bit `b` (R176, R177). -/
def bitTable (b : Bool) : List (Bool × Bool) := [(false, b), (true, b), (true, b), (false, b)]

/-- The lines of every phase of symbol `y`, carrying `b` if it carries a bit (R173). -/
def phaseTable (y : Sym) (b : Bool) : List (Bool × Bool) :=
  match y with
  | .s  => [(true, true), (true, false), (false, false)]
  | .sr => [(false, true), (true, true), (true, false), (false, false)]
  | .p  => [(false, false), (true, false), (true, true), (true, true)]
  | .h  => [(false, true)]
  | _   => bitTable b

theorem phaseTable_length (y : Sym) (b : Bool) : (phaseTable y b).length = y.phases := by cases y <;> rfl

theorem phaseLines_eq_getElem (y : Sym) (b : Bool) (phi : Fin 4) : phaseLines y b phi = (phaseTable y b)[phi.val]? := by
  cases y <;> fin_cases phi <;> rfl

theorem isRelease_iff {y : Sym} {phi : Fin 4} : isRelease y phi = true ↔ y ≠ .s ∧ y ≠ .h ∧ phi = 1 := by
  cases y <;> simp [isRelease]

/-- In an SCL-release phase the engine releases SCL (R180). -/
theorem scl_released {y : Sym} {phi : Fin 4} {b : Bool} {lines : Bool × Bool} (release : isRelease y phi = true)
    (out : phaseLines y b phi = some lines) : lines.1 = true := by
  obtain ⟨hs, hh, rfl⟩ := isRelease_iff.1 release
  cases y with
  | s => exact absurd rfl hs
  | h => exact absurd rfl hh
  | _ => cases out; rfl

/-- The engine releases SDA in every phase of a bit it receives (R177). -/
theorem sda_released {s : State} {lines : Bool × Bool} (receives : s.sym ∈ [Sym.acka, .ackd, .rxbit])
    (out : currentLines s = some lines) : lines.2 = true := by
  have carried : phaseTable s.sym (sentBit s) = bitTable true := by
    cases hy : s.sym <;> simp_all [phaseTable, sentBit]
  have released : ∀ l ∈ bitTable true, l.2 = true := by decide
  rw [currentLines, phaseLines_eq_getElem, carried] at out
  exact released lines (List.mem_of_getElem? out)

/-- Every symbol but `S` drives SCL low in its first phase (R173). -/
theorem scl_low_at_start {y : Sym} {b : Bool} {lines : Bool × Bool} (hy : y ≠ .s) (out : phaseLines y b 0 = some lines) : lines.1 = false := by
  cases y with
  | s => exact absurd rfl hy
  | _ => cases out; rfl

/-- Where a symbol starts, the invariant has SCL low, but for `S` (R173). -/
theorem linesBefore_start {s : State} (before : linesBefore s) (start : s.phi = 0) :
    (s.sym = .s → s.sclO = true ∧ s.sdaO = true) ∧ (s.sym = .sr → s.sclO = false ∧ s.sdaO = true) ∧ (s.sym ≠ .s → s.sclO = false) := by
  unfold linesBefore at before
  rw [if_pos start] at before
  cases hy : s.sym <;> simp_all

/-! ### One step -/

/-- How a step of the running engine can end, `lines` being those of the phase in progress (R157, R172, R180). -/
inductive PhaseStep (s : State) (sclT sdaT : Bool) (lines : Bool × Bool) : State → Prop where
  | stalls (stalled : (isRelease s.sym s.phi && !sclT) = true) : PhaseStep s sclT sdaT lines (drive lines s)
  | fails (cause : busErrorCause s sclT sdaT) :
      PhaseStep s sclT sdaT lines (busErrorEnd (inPhase s.phi (sampleAfter s (level lines.2 sdaT)) lines s))
  | completes {t : State} (last : isLastPhase s = true)
      (ht : symbolDone (inPhase s.phi (sampleAfter s (level lines.2 sdaT)) lines s) = .next t) : PhaseStep s sclT sdaT lines t
  | advances (more : isLastPhase s = false) :
      PhaseStep s sclT sdaT lines (inPhase (s.phi + 1) (sampleAfter s (level lines.2 sdaT)) lines s)

theorem phaseStep_of_perform {s t : State} {sclT sdaT : Bool} (run : s.fes = .run) (ht : perform (.fe sclT sdaT) s = .next t) :
    ∃ lines, currentLines s = some lines ∧ PhaseStep s sclT sdaT lines t := by
  simp only [perform, feStep, run] at ht
  cases out : currentLines s with
  | none => simp [runStep, out] at ht
  | some lines =>
    refine ⟨lines, rfl, ?_⟩
    rw [runStep_cases out] at ht
    split at ht
    · next stalled =>
      cases ht
      exact .stalls stalled
    · next performed =>
      have found := phaseBusError_iff (sdaT := sdaT) out (Bool.eq_false_of_not_eq_true performed)
      simp only [performPhase, sample_eq] at ht
      split at ht
      · next check =>
        cases ht
        exact .fails (found.1 check)
      · split at ht
        · next last => exact .completes last ht
        · next more =>
          cases ht
          exact .advances (Bool.eq_false_of_not_eq_true more)

/-- A step that does not end in BusError leaves the lines of its phase out (R172, R173). -/
theorem lines_of_perform {s t : State} {sclT sdaT : Bool} (run : s.fes = .run) (ht : perform (.fe sclT sdaT) s = .next t)
    (clean : t.evtp ≠ .busError) : currentLines s = some (t.sclO, t.sdaO) := by
  obtain ⟨lines, out, step⟩ := phaseStep_of_perform run ht
  cases step with
  | stalls => exact out
  | fails => exact absurd rfl clean
  | completes _ ht =>
    obtain ⟨scl, sda⟩ := symbolDone_lines ht
    rw [scl, sda]
    exact out
  | advances => exact out

/-- A step that ends in BusError releases both lines (R157). -/
theorem released_of_busError {s t : State} {sclT sdaT : Bool} (h : Inv s) (run : s.fes = .run)
    (ht : perform (.fe sclT sdaT) s = .next t) (error : t.evtp = .busError) :
    busErrorCause s sclT sdaT ∧ t.fes = .idle ∧ t.sclO = true ∧ t.sdaO = true := by
  obtain ⟨causes, ends⟩ := busErrorHasExactlyFourCauses s t sclT sdaT h run ht
  have cause := causes.1 error
  rw [ends cause]
  exact ⟨cause, rfl, rfl, rfl⟩

/-- A phase that is performed and is not its symbol's last is followed by the next one (R172). -/
theorem nextPhase_of_perform {s t : State} {sclT sdaT : Bool} (run : s.fes = .run) (ht : perform (.fe sclT sdaT) s = .next t)
    (clean : t.evtp ≠ .busError) (more : isLastPhase s = false) (performed : (isRelease s.sym s.phi && !sclT) = false) :
    ∃ lines, currentLines s = some lines ∧ t = inPhase (s.phi + 1) (sampleAfter s (level lines.2 sdaT)) lines s := by
  obtain ⟨lines, out, step⟩ := phaseStep_of_perform run ht
  refine ⟨lines, out, ?_⟩
  cases step with
  | stalls stalled => simp [performed] at stalled
  | fails => exact absurd rfl clean
  | completes last => simp [more] at last
  | advances => rfl

/-- Phase 1 of a bit the engine receives takes SDA as the target drives it, and no other phase takes a sample (R177, R188). -/
theorem sampleAfter_of_received {s : State} {lines : Bool × Bool} (receives : s.sym ∈ [Sym.acka, .ackd, .rxbit])
    (out : currentLines s = some lines) (sdaT : Bool) : sampleAfter s (level lines.2 sdaT) = if s.phi = 1 then sdaT else s.samp := by
  rw [sda_released receives out, level, Bool.true_and, sampleAfter]
  cases hy : s.sym <;> simp_all [samplesSda]

/-- Settles O32: the table is the one the engine drives from, and a performed phase goes on to the next one. -/
theorem everyPhaseDrivesItsLines : Obligations.EveryPhaseDrivesItsLines := by
  intro s t sclT sdaT h run ht b nack bitPhases phases
  have table : phases = phaseTable s.sym (sentBit s) := by
    simp only [phases, sentBit]
    cases s.sym <;> rfl
  have lines := lines_of_perform run ht
  rw [currentLines, phaseLines_eq_getElem] at lines
  rw [table, phaseTable_length]
  refine ⟨h.frame.phase_exists run, lines, fun error => (released_of_busError h run ht error).2.2,
    linesBefore_start (h.frame.lines_before run), fun clean more high => ?_⟩
  have performed : (isRelease s.sym s.phi && !sclT) = false := by
    rcases high with high | early | start
    · simp [high]
    · simp [mt (fun release => (isRelease_iff.1 release).2.2) early]
    · simp [start, isRelease]
  obtain ⟨lines, out, rfl⟩ := nextPhase_of_perform run ht clean (by rw [isLastPhase, beq_eq_false_iff_ne]; omega) performed
  refine ⟨rfl, fun receives => sampleAfter_of_received receives out sdaT, fun carriesNone => sampleAfter_of_kept (.inr ?_) _⟩
  cases hy : s.sym <;> simp_all [samplesSda]

/-! ### A held clock -/

/-- In an SCL-release phase with SCL held by the target, a step drives the lines and does nothing else (R180). -/
theorem perform_of_held {s : State} {sdaT : Bool} {lines : Bool × Bool} (run : s.fes = .run) (release : isRelease s.sym s.phi = true)
    (out : currentLines s = some lines) : perform (.fe false sdaT) s = .next (drive lines s) := by
  simp only [perform, feStep, run, runStep_cases out, release]
  rfl

/-- Once the lines are out, any number of such steps changes nothing (R180). -/
theorem stalled_again {s : State} {sdaT : Bool} (run : s.fes = .run) (release : isRelease s.sym s.phi = true)
    (out : currentLines s = some (s.sclO, s.sdaO)) (n : Nat) : runMoves (List.replicate n (.fe false sdaT)) s = .next s := by
  have again : perform (.fe false sdaT) s = .next s := perform_of_held run release out
  induction n with
  | zero => rfl
  | succ n ih => rw [List.replicate_succ, runMoves, again, chain_next, ih]

/-- The level of SCL matters to the check of phase 0 of `S` only (R182 to R186). -/
theorem phaseBusError_ignores_scl {s : State} (elsewhere : ¬ (s.sym = .s ∧ s.phi = 0)) (sclI sclI' sdaI : Bool) :
    phaseBusError s sclI sdaI = phaseBusError s sclI' sdaI := by
  cases hy : s.sym
  case s =>
    have later : (s.phi == 0) = false := beq_eq_false_iff_ne.2 fun first => elsewhere ⟨hy, first⟩
    simp [phaseBusError, hy, later]
  all_goals simp [phaseBusError, hy]

/-- Settles O34: a stalled step leaves a state it leaves alone from then on; elsewhere `scl_t` reaches the check only, which does not look at it. -/
theorem aHeldClockStallsTheEngine : Obligations.AHeldClockStallsTheEngine := by
  intro s sdaT h run
  obtain ⟨lines, out⟩ := phaseLines_some (sentBit s) (h.frame.phase_exists run)
  have out : currentLines s = some lines := out
  refine ⟨fun hs hh second n positive => ?_, fun early elsewhere => ?_⟩
  · have release : isRelease s.sym s.phi = true := isRelease_iff.2 ⟨hs, hh, second⟩
    obtain ⟨n, rfl⟩ := Nat.exists_eq_add_one.2 positive
    refine ⟨lines.2, ?_⟩
    rw [List.replicate_succ, runMoves, perform_of_held run release out, chain_next, stalled_again (s := drive lines s) run release out,
      ← scl_released release out]
    rfl
  · have advances : isRelease s.sym s.phi = false := by
      simp only [← Bool.not_eq_true, isRelease_iff]
      tauto
    have elsewhere : ¬ ((drive lines s).sym = .s ∧ (drive lines s).phi = 0) := elsewhere
    simp only [perform, feStep, run, runStep_cases out, advances, Bool.false_and, performPhase,
      phaseBusError_ignores_scl elsewhere (level lines.1 false) (level lines.1 true)]

end Sys2Proof.Machine
end

section
/-! SDA moves only while SCL is low, but for START and STOP: at the step level, and on the edges of the clock (spec/42_wire_protocol.md R187;
spec/70_reset_and_hazards.md R362). -/

namespace Sys2Proof.Machine

/-! ### From one phase's lines to the next -/

/-- The lines may go from `before` to `after` in phase `phi` of symbol `y`: SDA moves while SCL is low, or it is START or STOP (R187). -/
def linesMayMove (y : Sym) (phi : Fin 4) (before after : Bool × Bool) : Prop :=
  after.2 ≠ before.2 → (before.1 = false ∧ after.1 = false) ∨
    (before.1 = true ∧ after.1 = true ∧
      ((before.2 = true ∧ (y = .s ∧ phi = 1 ∨ y = .sr ∧ phi = 2)) ∨ (before.2 = false ∧ y = .p ∧ phi = 2)))

theorem linesMayMove_of_same {y : Sym} {phi : Fin 4} {before after : Bool × Bool} (same : after.2 = before.2) :
    linesMayMove y phi before after := fun moved => absurd same moved

/-- Along the table of lines (R173, R187). -/
theorem linesMayMove_of_previous {y : Sym} {b : Bool} {phi : Fin 4} {before after : Bool × Bool} (later : phi ≠ 0)
    (previous : some before = phaseLines y b (phi - 1)) (out : phaseLines y b phi = some after) : linesMayMove y phi before after := by
  revert later previous out
  obtain ⟨a, c⟩ := before
  obtain ⟨a', c'⟩ := after
  revert a c a' c' b phi
  cases y <;> unfold linesMayMove <;> decide

/-- From the lines the invariant has before a phase to the lines of the phase (R173, R187). -/
theorem linesMayMove_of_linesBefore {s : State} {lines : Bool × Bool} (before : linesBefore s) (out : currentLines s = some lines) :
    linesMayMove s.sym s.phi (s.sclO, s.sdaO) lines := by
  by_cases start : s.phi = 0
  · obtain ⟨fresh, -, low⟩ := linesBefore_start before start
    rw [currentLines, start] at out
    by_cases hs : s.sym = .s
    · rw [hs] at out
      cases out
      exact linesMayMove_of_same (fresh hs).2.symm
    · exact fun _ => .inl ⟨low hs, scl_low_at_start hs out⟩
  · rw [linesBefore, if_neg start] at before
    rcases before with same | previous
    · cases (same.trans out)
      exact linesMayMove_of_same rfl
    · exact linesMayMove_of_previous start previous out

/-- SDA is released if a phase and the one before it release it (R173). -/
theorem sda_released_before {s : State} {scl scl' : Bool} (before : linesBefore s) (later : s.phi ≠ 0)
    (now : phaseLines s.sym (sentBit s) s.phi = some (scl, true))
    (previous : phaseLines s.sym (sentBit s) (s.phi - 1) = some (scl', true)) : s.sdaO = true := by
  rw [linesBefore, if_neg later, now, previous] at before
  rcases before with same | same <;> exact (Prod.mk.inj (Option.some.inj same)).2

/-- What makes a phase end in BusError comes while the engine has SDA released (R182 to R186). -/
theorem sda_released_of_cause {s : State} {sclT sdaT : Bool} (before : linesBefore s) (cause : busErrorCause s sclT sdaT) :
    s.sdaO = true := by
  rcases cause with ⟨hs, first, -⟩ | ⟨hs, second, -⟩ | ⟨sends, second, -⟩ | ⟨hs, last, -⟩
  · exact ((linesBefore_start before first).1 hs).2
  · exact sda_released_before before (by simp [second]) (by rw [hs, second]; rfl) (by rw [hs, second]; rfl)
  · have released : sentBit s = true := by
      rcases sends with ⟨hs | hs, one⟩ | ⟨hs, final⟩
      · simp [sentBit, hs, one]
      · simp [sentBit, hs, one]
      · simp [sentBit, hs, masterAck, final]
    have sends : s.sym = .txa ∨ s.sym = .txd ∨ s.sym = .mack := by tauto
    rcases sends with hs | hs | hs <;>
      exact sda_released_before before (by simp [second]) (by rw [hs, released, second]; rfl) (by rw [hs, released, second]; rfl)
  · exact sda_released_before before (by simp [last]) (by rw [hs, last]; rfl) (by rw [hs, last]; rfl)

/-! ### The engine's step -/

/-- A step of the running engine moves the lines as its phase may (R187). -/
theorem linesMayMove_of_perform {s t : State} {sclT sdaT : Bool} (h : Inv s) (run : s.fes = .run)
    (ht : perform (.fe sclT sdaT) s = .next t) : linesMayMove s.sym s.phi (s.sclO, s.sdaO) (t.sclO, t.sdaO) := by
  have before := h.frame.lines_before run
  by_cases error : t.evtp = .busError
  · obtain ⟨cause, -, -, released⟩ := released_of_busError h run ht error
    exact linesMayMove_of_same (released.trans (sda_released_of_cause before cause).symm)
  · exact linesMayMove_of_linesBefore before (lines_of_perform run ht error)

/-- The last phases of the symbols but `P` (R173). -/
theorem isLastPhase_of_final {s : State} (point : s.phi.val < s.sym.phases) (hy : s.sym ≠ .p)
    (final : s.sym = .s ∧ s.phi = 2 ∨ s.sym = .h ∨ s.phi = 3) : isLastPhase s = true := by
  rw [isLastPhase, beq_iff_eq]
  rcases final with ⟨hs, last⟩ | hs | last
  · simp [hs, last, Sym.phases]
  · simpa [hs, Sym.phases] using point
  · cases hs : s.sym <;> simp_all [Sym.phases]

/-- The engine leaves the lines alone when no frame is on the wire (R51, R158). -/
theorem feStep_of_notRunning {s t : State} {sclT sdaT : Bool} (off : s.fes ≠ .run) (ht : feStep sclT sdaT s = .next t) :
    t.fes ≠ .run ∧ t.sclO = s.sclO ∧ t.sdaO = s.sdaO := by
  cases hf : s.fes <;> simp only [feStep, hf] at ht
  case run => exact absurd hf off
  case idle | held => cases ht; exact ⟨off, rfl, rfl⟩
  case drain =>
    cases ht
    unfold drainStep
    split
    · exact ⟨by simp, rfl, rfl⟩
    · exact ⟨off, rfl, rfl⟩

/-! ### The engine's clock edge -/

theorem presentPhase_of_running {s : State} {lines : Bool × Bool} (run : s.fes = .run) (out : currentLines s = some lines) :
    presentPhase s = drive lines s := by
  simp [presentPhase, run, out]

theorem presentPhase_of_notRunning {s : State} (off : s.fes ≠ .run) : presentPhase s = s := if_neg off

theorem presentPhase_of_out {s : State} (out : linesOut s) : presentPhase s = s := by
  by_cases run : s.fes = .run
  · exact presentPhase_of_running run (out run)
  · exact presentPhase_of_notRunning run

/-- What R187 asks of an edge from `s` to `t` on which the lines of the phase in progress are out: they still are, and SDA has moved only as the
phase brought out may move it. -/
def edgeKeepsLines (s t : State) : Prop :=
  linesOut t ∧ (t.sdaO ≠ s.sdaO → s.fes = .run ∧ t.fes = .run ∧ linesMayMove t.sym t.phi (s.sclO, s.sdaO) (t.sclO, t.sdaO))

/-- With the lines of its phase out, a step of the engine moves them only to release them at BusError, SDA being released already
(R157, R172, R182 to R186). -/
theorem lines_stand_of_out {s t : State} {sclT sdaT : Bool} (h : Inv s) (out : linesOut s) (ht : feStep sclT sdaT s = .next t) :
    t.sdaO = s.sdaO ∧ (t.fes = .run → t.sclO = s.sclO) := by
  by_cases run : s.fes = .run
  · by_cases error : t.evtp = .busError
    · obtain ⟨cause, idle, -, released⟩ := released_of_busError h run ht error
      exact ⟨released.trans (sda_released_of_cause (h.frame.lines_before run) cause).symm, fun running => by simp [idle] at running⟩
    · obtain ⟨scl, sda⟩ := Prod.mk.inj (Option.some.inj ((out run).symm.trans (lines_of_perform run ht error)))
      exact ⟨sda.symm, fun _ => scl.symm⟩
  · obtain ⟨-, scl, sda⟩ := feStep_of_notRunning run ht
    exact ⟨sda, fun _ => scl⟩

/-- The engine's part of a clock edge (R187, R362). -/
theorem feEdge_keepsLines {s t : State} {sclT sdaT : Bool} (h : Inv s) (out : linesOut s) (ht : feEdge sclT sdaT s = .next t) :
    edgeKeepsLines s t := by
  unfold feEdge at ht
  rw [presentPhase_of_out out] at ht
  split at ht
  · next run =>
    split at ht
    · cases ht
      exact ⟨out, fun moved => absurd rfl moved⟩
    · split at ht
      · cases ht
        exact ⟨out, fun moved => absurd rfl moved⟩
      · obtain ⟨u, hu, presented⟩ := chain_eq_next ht
        cases presented
        have hi := feStep_inv h hu
        obtain ⟨sda, scl⟩ := lines_stand_of_out h out hu
        by_cases run' : u.fes = .run
        · obtain ⟨lines, next⟩ := phaseLines_some (sentBit u) (hi.frame.phase_exists run')
          rw [presentPhase_of_running run' next]
          refine ⟨fun _ => next, fun _ => ⟨run, run', ?_⟩⟩
          rw [← sda, ← scl run']
          exact linesMayMove_of_linesBefore (hi.frame.lines_before run') next
        · rw [presentPhase_of_notRunning run']
          exact ⟨fun running => absurd running run', fun moved => absurd sda moved⟩
  · next off =>
    obtain ⟨rests, -, sda⟩ := feStep_of_notRunning off ht
    exact ⟨fun run => absurd run rests, fun moved => absurd sda moved⟩

/-! ### The command port -/

/-- A command leaves the engine's state, or puts the engine at the start of a frame (R142). -/
def startsOrRests (s t : State) : Prop := t.fes = s.fes ∨ (t.phi = 0 ∧ (t.sym = .s ∨ t.sym = .sr))

/-- The symbol a launch writes (R142). -/
theorem startSymbol (claimed : Bool) : (if claimed = true then Sym.sr else .s) = .s ∨ (if claimed = true then Sym.sr else .s) = .sr := by
  cases claimed <;> decide

theorem submit_startsOrRests (dir ns : Bool) (a : BusAddr) (n : Byte) (s : State) : startsOrRests s (submit dir ns a n s) := by
  rcases submit_cases dir ns a n s with ⟨-, e⟩ | ⟨-, e⟩ <;> rw [e]
  · exact .inr ⟨rfl, startSymbol s.claimed⟩
  · exact .inl rfl

/-- `primLaunch` does not look at `RLEN`, which `RBLK` has written before (R240). -/
theorem primLaunch_startsOrRests (dir ns : Bool) (n l rlen : Byte) (m : Memory) (q : SeqPoint) (s : State) :
    startsOrRests s (primLaunch dir ns n l m q { s with rlen := rlen }) := by
  rcases primLaunch_cases dir ns n l m q { s with rlen := rlen } with ⟨-, -, e⟩ | ⟨-, -, e⟩ | ⟨-, e⟩ <;> rw [e]
  · exact .inr ⟨rfl, startSymbol s.claimed⟩
  · exact .inr ⟨rfl, startSymbol s.claimed⟩
  · exact .inl rfl

theorem exec_startsOrRests {i : Instr} {s t : State} (ht : exec i s = .next t) : startsOrRests s t := by
  cases i with
  | submitW | submitWN | submitR | submitRN => cases ht; exact submit_startsOrRests ..
  | wreg | wblk => cases ht; exact primLaunch_startsOrRests (rlen := s.rlen) ..
  | rblk _ n => cases ht; exact primLaunch_startsOrRests (rlen := n) ..
  | init =>
    cases ht
    split
    · exact .inl rfl
    · split <;> exact .inl rfl
  | wait | stb | ldb | rdst => cases ht; split <;> exact .inl rfl
  | frst | stmo => cases ht; exact .inl rfl

theorem presentNext_startsOrRests {s t : State} (ht : presentNext s = .next t) : startsOrRests s t := by
  rcases presentNext_cases s with rests | ⟨w, prog, job, result, taken⟩
  · rw [rests] at ht
    cases ht
    exact .inl rfl
  · rw [taken, takeWord] at ht
    split at ht
    · exact (exec_startsOrRests ht :)
    · cases ht
      exact .inl rfl

theorem seqStep_startsOrRests {s t : State} (ht : seqStep s = .next t) : startsOrRests s t := by
  cases seqStep_outcome ht with
  | phaseTwoLaunch =>
    rcases readPhaseTwoLaunch_cases s with ⟨-, -, e⟩ | ⟨cause, e⟩ <;> rw [e]
    · exact .inr ⟨rfl, startSymbol s.claimed⟩
    · exact .inl rfl
  | _ => exact .inl rfl

theorem PortPart.startsOrRests {m : Move} {s t : State} (port : PortPart m s t) : startsOrRests s t := by
  cases port with
  | rests => exact .inl rfl
  | sequencer _ ht => exact seqStep_startsOrRests ht
  | host _ _ ht => exact presentNext_startsOrRests ht

/-- The lines of the first phase are those the bus has before START or repeated START (R173, R362). -/
theorem linesOut_of_start {s : State} (h : Inv s) (start : s.phi = 0) (first : s.sym = .s ∨ s.sym = .sr) : linesOut s := by
  intro run
  obtain ⟨fresh, again, -⟩ := linesBefore_start (h.frame.lines_before run) start
  rcases first with hs | hs
  · rw [hs, start, (fresh hs).1, (fresh hs).2]; rfl
  · rw [hs, start, (again hs).1, (again hs).2]; rfl

/-- The command port keeps the lines out: it leaves a frame on the wire alone, and a launch starts with the bus as it is. -/
theorem PortPart.linesOut {m : Move} {s t : State} (port : PortPart m s t) (h : Inv s) (out : linesOut s) : linesOut t := by
  rcases port.startsOrRests with rests | ⟨start, first⟩
  · intro run
    have running : s.fes = .run := rests.symm.trans run
    have same := port.effect.answer_of_outstanding (outstanding_of_inFlight h (.inl running)).1
    rw [same]
    exact out running
  · exact linesOut_of_start (port.inv h) start first

/-! ### The whole edge -/

/-- A clock edge in its parts, the engine's part being its clocked step if it was enabled before the edge (R322, R362). -/
theorem clockEdge_engine {e : EdgeIn} {s t : State} (running : e.rstN = true) (ht : clockEdge e s = .next t) :
    ∃ s1 s2 s3, PortPart (.edge e) s s1 ∧ whenOn (feEnabled s) (feEdge e.sclT e.sdaT) s1 = .next s2 ∧
      MoverPart (.edge e) s s2 s3 ∧ CompletionPart s s3 t := by
  rw [clockEdge, if_neg (by simp [running])] at ht
  obtain ⟨s1, port, ht⟩ := chain_eq_next ht
  obtain ⟨s2, engine, ht⟩ := chain_eq_next ht
  obtain ⟨s3, mover, ht⟩ := chain_eq_next ht
  refine ⟨s1, s2, s3, ?_, engine, ?_, ?_⟩
  · split at port
    · next closed => exact .sequencer closed port
    · next ready =>
      rcases whenOn_cases port with ⟨taken, port⟩ | ⟨-, rfl⟩
      · exact .host (by simpa using ready) (.inr ⟨e, rfl, (Bool.and_eq_true_iff.1 taken).1⟩) port
      · exact .rests
  · rcases whenOn_cases mover with ⟨on, mover⟩ | ⟨-, rfl⟩
    · obtain ⟨full, go⟩ := Bool.and_eq_true_iff.1 on
      exact .moves full (.inr ⟨e, rfl, go⟩) mover
    · exact .rests
  · cases ht
    split
    · next on => exact completionPart_of_enabled (Bool.and_eq_true_iff.1 on).1
    · exact .rests

/-- A clock edge: the command port leaves a frame on the wire alone, and mover and completion unit leave the lines (R187, R362). -/
theorem clockEdge_keepsLines {e : EdgeIn} {s t : State} (h : Inv s) (out : linesOut s) (running : e.rstN = true)
    (ht : clockEdge e s = .next t) : edgeKeepsLines s t := by
  obtain ⟨s1, s2, s3, port, engine, mover, completion⟩ := clockEdge_engine running ht
  have scl : s1.sclO = s.sclO := port.effect.keeps (·.sclO) fun _ => rfl
  have sda : s1.sdaO = s.sdaO := port.effect.keeps (·.sdaO) fun _ => rfl
  have after : edgeKeepsLines s s2 := by
    rcases whenOn_cases engine with ⟨enabled, engine⟩ | ⟨-, rfl⟩
    · have flying : inFlight s := by simpa [inFlight, feEnabled] using enabled
      have answered := port.effect.answer_of_outstanding (outstanding_of_inFlight h flying).1
      have point : s1.fes = s.fes := by rw [answered]; rfl
      have moves := feEdge_keepsLines (port.inv h) (port.linesOut h out) engine
      rwa [edgeKeepsLines, scl, sda, point] at moves
    · exact ⟨port.linesOut h out, fun moved => absurd sda moved⟩
  have moved : edgeKeepsLines s s3 = edgeKeepsLines s s2 := mover.keeps (edgeKeepsLines s) fun _ _ _ => rfl
  have delivered : edgeKeepsLines s t = edgeKeepsLines s s3 := completion.keeps (edgeKeepsLines s) rfl
  rwa [delivered, moved]

/-- Settles O33: phase by phase along the table of lines, from the lines before the phase to its own; on an edge that ends a phase these are the
lines of that phase and of the one brought out. -/
theorem sdaChangesOnlyWhileSclIsLow : Obligations.SdaChangesOnlyWhileSclIsLow := by
  refine ⟨fun s t sclT sdaT h ht => ⟨fun moved => ?_, fun run start other => ?_, fun run other clean final => ?_⟩,
    fun _ _ _ _ run => ?_, fun s t e h out running ht => ?_⟩
  · by_cases run : s.fes = .run
    · exact (linesMayMove_of_perform h run ht moved).imp_right fun ⟨high, high', edge⟩ => ⟨run, high, high', edge⟩
    · exact absurd (feStep_of_notRunning run ht).2.2 moved
  · exact (linesBefore_start (h.frame.lines_before run) start).2.2 other
  · have last := isLastPhase_of_final (h.frame.phase_exists run) other final
    have out := lines_of_perform run ht clean
    exact scl_low_after (s := drive (t.sclO, t.sdaO) s) out last other
  · cases run
  · obtain ⟨out, moves⟩ := clockEdge_keepsLines h out running ht
    refine ⟨out, fun moved => ?_⟩
    obtain ⟨run, run', moves⟩ := moves moved
    exact (moves moved).imp_right fun ⟨high, high', edge⟩ => ⟨run, run', high, high', edge⟩

end Sys2Proof.Machine
end

section
/-! No move stops in a state that meets the invariant (spec/42_wire_protocol.md R174; spec/20_memory.md R81; spec/44_transaction_primitives.md
R234). -/

namespace Sys2Proof.Machine

/-! ### The port -/

/-- A wait that ended in `Done` has an event to classify (R234). -/
theorem finishClassified_next {s : State} (delivered : s.evt ≠ .none) : ∃ t, finishClassified s = .next t := by
  obtain ⟨c, hc⟩ := classify_some delivered
  exact ⟨finish c s, by rw [finishClassified, hc]⟩

theorem primWaitStep_next {s : State} (h : Inv s) : ∃ t, primWaitStep s = .next t := by
  unfold primWaitStep
  split
  · exact ⟨_, rfl⟩
  · exact ⟨_, rfl⟩
  · next ended => exact finishClassified_next (s := waitTick s) (delivered_of_done h ended).2

theorem readPhaseOneStep_next {s : State} (h : Inv s) : ∃ t, readPhaseOneStep s = .next t := by
  unfold readPhaseOneStep
  split
  · exact ⟨_, rfl⟩
  · exact ⟨_, rfl⟩
  · next ended =>
    split
    · exact ⟨_, rfl⟩
    · exact finishClassified_next (s := waitTick s) (delivered_of_done h ended).2

theorem seqStep_next {s : State} (h : Inv s) : ∃ t, seqStep s = .next t := by
  unfold seqStep
  split
  case h_1 | h_2 | h_5 => exact ⟨_, rfl⟩
  case h_3 | h_6 => exact primWaitStep_next h
  case h_4 => exact readPhaseOneStep_next h

theorem presentNext_next (s : State) : ∃ t, presentNext s = .next t := by
  rcases presentNext_cases s with rests | ⟨w, prog, job, result, taken⟩
  · exact ⟨s, rests⟩
  · rw [taken]
    exact takeWord_next ..

/-! ### The engine -/

/-- The index of a byte to load is inside the frame, which is inside `TXB` (R81). -/
theorem loadByte_next_of_write {i : Byte} {s : State} (h : Inv s) (run : s.fes = .run) (write : s.dir = false)
    (inside : i.toNat < s.len.toNat) : ∃ t, loadByte i s = .next t := by
  have fits := (h.frame.len_fits (outstanding_of_inFlight h (.inl run)).1).2
  rw [write] at fits
  exact ⟨_, loadByte_next (inside.trans_le fits)⟩

theorem symbolDone_next {s : State} (h : Inv s) (run : s.fes = .run) : ∃ t, symbolDone s = .next t := by
  unfold symbolDone
  split
  case h_1 | h_2 | h_9 | h_10 => exact ⟨_, rfl⟩
  case h_3 | h_5 | h_7 => split <;> exact ⟨_, rfl⟩
  case h_8 =>
    split
    · exact ⟨_, rfl⟩
    · split <;> exact ⟨_, rfl⟩
  case h_4 =>
    split
    · exact ⟨_, rfl⟩
    · split
      · next write => exact loadByte_next_of_write h run write (h.frame.len_fits (outstanding_of_inFlight h (.inl run)).1).1
      · exact ⟨_, rfl⟩
  case h_6 hs =>
    split
    · exact ⟨_, rfl⟩
    · split
      · next more =>
        have inside : (s.idx + 1).toNat < s.len.toNat := toNat_succ (more.trans s.len.isLt) ▸ more
        exact loadByte_next_of_write h run (h.frame.write_symbols run (.inr (.inl hs))) inside
      · split <;> exact ⟨_, rfl⟩

theorem performPhase_next {s : State} (h : Inv s) (run : s.fes = .run) (sclI sdaI : Bool) : ∃ t, performPhase sclI sdaI s = .next t := by
  have sampled := sampled_inv h sdaI
  obtain ⟨b, same⟩ := sample_same sdaI s
  simp only [performPhase]
  split
  · exact ⟨_, rfl⟩
  · split
    · exact symbolDone_next sampled (by rw [same]; exact run)
    · exact ⟨_, rfl⟩

/-- The control point names a phase of its symbol, which has lines (R53, R173). -/
theorem currentLines_some {s : State} (h : Inv s) (run : s.fes = .run) : ∃ lines, currentLines s = some lines :=
  phaseLines_some _ (h.frame.phase_exists run)

theorem feStep_next {s : State} (h : Inv s) (sclT sdaT : Bool) : ∃ t, feStep sclT sdaT s = .next t := by
  unfold feStep
  split
  case h_1 run =>
    obtain ⟨lines, out⟩ := currentLines_some h run
    rw [runStep_cases out]
    split
    · exact ⟨_, rfl⟩
    · exact performPhase_next (drive_inv h run out) run ..
  all_goals exact ⟨_, rfl⟩

theorem feEdge_next {s : State} (h : Inv s) (sclT sdaT : Bool) : ∃ t, feEdge sclT sdaT s = .next t := by
  obtain ⟨t, ht⟩ := feStep_next h sclT sdaT
  unfold feEdge
  rw [ht]
  split
  · split
    · exact ⟨_, rfl⟩
    · split <;> exact ⟨_, rfl⟩
  · exact ⟨t, rfl⟩

/-! ### The whole move -/

/-- The first part of a clock edge: the sequencer while the port is closed, else the host if it presents a word (R322). -/
def edgePort (e : EdgeIn) (s : State) : Result :=
  if s.lock = true then seqStep s else whenOn (commandTaken e s) presentNext s

theorem clockEdge_eq {e : EdgeIn} (running : e.rstN = true) (s : State) : clockEdge e s =
    chain (edgePort e s) fun s1 =>
    chain (whenOn (feEnabled s) (feEdge e.sclT e.sdaT) s1) fun s2 =>
    chain (whenOn (s.rxv && e.moverGo) moveByte s2) fun s3 =>
    .next (if cbEnabled s && e.cbGo then deliverCompletion s3 else s3) := if_neg (by simp [running])

theorem edgePort_next {e : EdgeIn} {s : State} (h : Inv s) : ∃ t, edgePort e s = .next t := by
  unfold edgePort whenOn
  split
  · exact seqStep_next h
  · split
    · exact presentNext_next s
    · exact ⟨s, rfl⟩

theorem edgePort_part {e : EdgeIn} {s t : State} (ht : edgePort e s = .next t) : PortPart (.edge e) s t := by
  unfold edgePort at ht
  split at ht
  · next closed => exact .sequencer closed ht
  · next ready =>
    rcases whenOn_cases ht with ⟨taken, ht⟩ | ⟨-, rfl⟩
    · exact .host (by simpa using ready) (.inr ⟨e, rfl, (Bool.and_eq_true_iff.1 taken).1⟩) ht
    · exact .rests

/-- The engine's part of an edge (R322, R362). -/
theorem edgeEngine_next {e : EdgeIn} {s s1 : State} (h1 : Inv s1) :
    ∃ s2, whenOn (feEnabled s) (feEdge e.sclT e.sdaT) s1 = .next s2 ∧ EnginePart s s1 s2 := by
  cases enabled : feEnabled s with
  | true =>
    obtain ⟨s2, ht⟩ := feEdge_next h1 e.sclT e.sdaT
    exact ⟨s2, ht, .clocks enabled ht⟩
  | false => exact ⟨s1, rfl, .rests⟩

/-- A byte held before the edge still has its place in `RXB` when the mover's turn comes, port and engine having acted (R81, R155, R322). -/
theorem place_of_full {s s1 s2 : State} (h : Inv s) (h1 : Inv s1) (full : s.rxv = true) (c : CommandEffect s s1) (f : EngineEffect s1 s2) :
    s2.ridx.toNat < s2.par.rxCap := by
  have answered := c.answer_of_outstanding (outstanding_of_full h full)
  have full1 : s1.rxv = true := (congrArg State.rxv answered).trans full
  have ridx : s2.ridx = s1.ridx := f.keeps (·.ridx) fun _ => rfl
  have par : s2.par = s1.par := f.keeps (·.par) fun _ => rfl
  obtain ⟨inside, fits⟩ := ridx_lt h1 full1
  rw [ridx, par]
  exact inside.trans_le fits

theorem clockEdge_next {e : EdgeIn} {s : State} (h : Inv s) : ∃ t, clockEdge e s = .next t := by
  cases running : e.rstN with
  | false => exact ⟨_, if_pos running⟩
  | true =>
    rw [clockEdge_eq running]
    obtain ⟨s1, port⟩ := edgePort_next (e := e) h
    have part := edgePort_part port
    obtain ⟨s2, engine, enginePart⟩ := edgeEngine_next (e := e) (s := s) (part.inv h)
    rw [port, chain_next, engine, chain_next]
    cases on : s.rxv && e.moverGo with
    | false => exact ⟨_, rfl⟩
    | true =>
      have full : s.rxv = true := (Bool.and_eq_true_iff.1 on).1
      have moves : whenOn true moveByte s2 = moveByte s2 := rfl
      rw [moves, moveByte_next (place_of_full h (part.inv h) full part.effect enginePart.effect)]
      exact ⟨_, rfl⟩

theorem hostStep_next (s : State) : ∃ t, hostStep s = .next t := by
  unfold hostStep
  split
  · exact presentNext_next s
  · exact ⟨s, rfl⟩

theorem seqAgentStep_next {s : State} (h : Inv s) : ∃ t, seqAgentStep s = .next t := by
  unfold seqAgentStep
  split
  · exact seqStep_next h
  · exact ⟨s, rfl⟩

theorem moverStep_next {s : State} (h : Inv s) : ∃ t, moverStep s = .next t := by
  cases hr : s.rxv with
  | false => exact ⟨s, moverStep_of_empty hr⟩
  | true => exact ⟨_, perform_mover_of_full h hr⟩

/-- Under the invariant every move has a next state (R81, R174, R234). -/
theorem perform_next {s : State} (h : Inv s) (m : Move) : ∃ t, perform m s = .next t := by
  cases m with
  | reset | cb => exact ⟨_, rfl⟩
  | host => exact hostStep_next s
  | seq => exact seqAgentStep_next h
  | fe sclT sdaT => exact feStep_next h sclT sdaT
  | mover => exact moverStep_next h
  | edge e => exact clockEdge_next h

end Sys2Proof.Machine
end

section
/-! The sequencer's registers while the port is closed: no other agent writes them (spec/10_state.md R62; spec/60_exceptions.md R322). -/

namespace Sys2Proof.Machine

/-- What the sequencer writes and, with the port closed, no other agent does (R37, R43, R46, R52). -/
def sequencerPart (s : State) : Bool × SeqPoint × Imm24 × Imm24 × Byte × Code × Rej × Option Word :=
  (s.lock, s.seq, s.tcnt, s.tbudget, s.rlen, s.res, s.rej, s.rsp)

/-- A clock edge in its parts, the port's part being the one `edgePort` answers (R322). -/
theorem clockEdge_after_port {e : EdgeIn} {s t : State} (running : e.rstN = true) (ht : clockEdge e s = .next t) :
    ∃ s1 s2 s3, edgePort e s = .next s1 ∧ EnginePart s s1 s2 ∧ MoverPart (.edge e) s s2 s3 ∧ CompletionPart s s3 t := by
  rw [clockEdge_eq running] at ht
  obtain ⟨s1, port, ht⟩ := chain_eq_next ht
  obtain ⟨s2, engine, ht⟩ := chain_eq_next ht
  obtain ⟨s3, mover, ht⟩ := chain_eq_next ht
  cases ht
  refine ⟨s1, s2, s3, port, ?_, ?_, ?_⟩
  · rcases whenOn_cases engine with ⟨enabled, engine⟩ | ⟨-, rfl⟩
    · exact .clocks enabled engine
    · exact .rests
  · rcases whenOn_cases mover with ⟨on, mover⟩ | ⟨-, rfl⟩
    · obtain ⟨full, go⟩ := Bool.and_eq_true_iff.1 on
      exact .moves full (.inr ⟨e, rfl, go⟩) mover
    · exact .rests
  · split
    · next on => exact completionPart_of_enabled (Bool.and_eq_true_iff.1 on).1
    · exact .rests

/-- With the port closed a move that is the sequencer's turn is its step, as far as the sequencer's registers go (R19, R322). -/
theorem perform_steps {m : Move} {s t : State} (closed : s.lock = true) (steps : stepsSequencer m = true) (ht : perform m s = .next t) :
    ∃ u, seqStep s = .next u ∧ sequencerPart t = sequencerPart u := by
  cases m with
  | seq => exact ⟨t, (if_pos closed).symm.trans ht, rfl⟩
  | edge e =>
    obtain ⟨u, s2, s3, port, engine, mover, completion⟩ := clockEdge_after_port steps ht
    exact ⟨u, (if_pos closed).symm.trans port,
      after_port engine mover completion sequencerPart (fun _ _ => rfl) (fun _ _ _ _ => rfl) fun _ => rfl⟩
  | _ => cases steps

/-- With the port closed every other move but reset leaves the sequencer's registers (R19, R37). -/
theorem perform_rests {m : Move} {s t : State} (closed : s.lock = true) (running : isReset m = false) (rests : stepsSequencer m = false)
    (ht : perform m s = .next t) : sequencerPart t = sequencerPart s := by
  cases m with
  | reset => cases running
  | seq => cases rests
  | edge e => simp_all [isReset, stepsSequencer]
  | host => cases (hostStep_of_locked closed).symm.trans ht; rfl
  | fe sclT sdaT => exact (feStep_effect ht).keeps sequencerPart fun _ => rfl
  | mover =>
    simp only [perform, moverStep] at ht
    split at ht
    · obtain ⟨rxb, ridx, rfl⟩ := moveByte_same ht
      rfl
    · cases ht; rfl
  | cb =>
    cases ht
    unfold cbStep
    split <;> rfl

end Sys2Proof.Machine
end

section
/-! The completion flag and the timeout counter: `FRST`, `WAIT`, `STMO` (spec/43_completion_wait.md R210 to R216). -/

namespace Sys2Proof.Machine

/-! ### `FRST` and `STMO` -/

theorem exec_frst (s : State) : exec .frst s = .next (answer .success .none 0 (flagReset s)) := rfl

/-- A frame outstanding, or a block that is not ready, is a cause to reject every submission (R141). -/
theorem submit_res_of_unfit {dir nostop : Bool} {a : BusAddr} {len : Byte} {s : State} (unfit : s.busy = true ∨ s.lc ≠ .ready) :
    (submit dir nostop a len s).res = .submissionRejected := by
  rcases submit_cases dir nostop a len s with ⟨accepted, -⟩ | ⟨-, e⟩
  · obtain ⟨ready, free, -⟩ := submitCheck_none.1 accepted
    simp [ready, free] at unfit
  · rw [e, answer_res]

/-- Settles O13: `FRST` touches neither `BUSY` nor `LC`, on which the arming and the tests of `SUBMIT` after it depend. -/
theorem frstClearsTheFlagAndArms : Obligations.FrstClearsTheFlagAndArms := by
  refine fun s => ⟨rfl, fun t ht => ?_⟩
  cases (exec_frst s).symm.trans ht
  refine ⟨rfl, fun unfit a n i hi => ?_⟩
  simp only [List.mem_cons, List.not_mem_nil, or_false] at hi
  rcases hi with rfl | rfl | rfl | rfl <;> exact ⟨_, rfl, submit_res_of_unfit unfit⟩

/-- Settles O20: `STMO` writes the budget and its response, and `TCNT` is no part of either. -/
theorem stmoSetsTheBudgetAndNothingElse : Obligations.StmoSetsTheBudgetAndNothingElse := fun _ _ => rfl

/-! ### One iteration of the poll -/

theorem exec_wait_zero (s : State) :
    exec (.wait 0) s = .next { s with tcnt := 0, res := .timeout, rej := .none, rsp := some 0x00000006 } := rfl

theorem exec_wait_of_ne {b : Imm24} (positive : b ≠ 0) (s : State) :
    exec (.wait b) s = .next { s with tcnt := b, lock := true, seq := .waitW } := congrArg _ (if_neg positive)

theorem seqStep_of_waitW {s : State} (point : s.seq = .waitW) : seqStep s = .next (waitStep s) := by rw [seqStep, point]

theorem waitStep_of_flag {s : State} (flag : s.cflag = true) : waitStep s = finishWait .success (waitTick s) := by
  rw [waitStep, waitResult_eq, if_pos flag]

/-- A wait that times out has no data to return: its counter is 0. -/
theorem waitStep_of_last {s : State} (clear : s.cflag = false) (last : s.tcnt = 1) :
    waitStep s = finish .timeout { s with tcnt := 0 } := by
  rw [waitStep, waitResult_eq, if_neg (by simp [clear]), waitTick, last, countDown_one, if_pos rfl]
  rfl

theorem countDown_toNat (c : Imm24) : (countDown c).toNat = c.toNat - 1 := by
  unfold countDown
  split
  · next zero => simp [zero]
  · bv_omega

theorem waitStep_of_more {s : State} (clear : s.cflag = false) (more : 1 < s.tcnt.toNat) : waitStep s = waitTick s := by
  have left : countDown s.tcnt ≠ 0 := fun zero => by
    have := countDown_toNat s.tcnt
    simp only [zero, BitVec.ofNat_eq_ofNat, BitVec.toNat_ofNat] at this
    omega
  rw [waitStep, waitResult_eq, if_neg (by simp [clear]), if_neg left]

/-- Settles O17: the counter goes down whatever is found; then the flag decides, then the counter. -/
theorem waitPollsTheFlagBeforeTheCounter : Obligations.WaitPollsTheFlagBeforeTheCounter := by
  refine ⟨fun b s => ⟨?_, fun positive => exec_wait_of_ne positive s⟩, fun s closed point counting => ?_⟩
  · rintro rfl
    exact exec_wait_zero s
  · have step : perform .seq s = .next (waitStep s) := (if_pos closed).trans (seqStep_of_waitW point)
    have tick : waitTick s = { s with tcnt := s.tcnt - 1 } := by rw [waitTick, countDown_of_ne counting]
    refine ⟨fun flag => ?_, fun clear last => ?_, fun clear more => ?_⟩
    · rw [step, waitStep_of_flag flag, tick, ← responseWord_data]
      rfl
    · rw [step, waitStep_of_last clear last]
      rfl
    · rw [step, waitStep_of_more clear (by bv_omega), tick]

/-! ### The poll among the moves of the other agents -/

theorem runMoves_cons {m : Move} {s u : State} (hu : perform m s = .next u) (ms : List Move) : runMoves (m :: ms) s = runMoves ms u := by
  rw [runMoves, hu, chain_next]

/-- A `WAIT` is in progress with `n` iterations left (R212, R213). -/
structure Polls (n : Nat) (s : State) : Prop where
  inv : Inv s
  closed : s.lock = true
  point : s.seq = .waitW
  left : s.tcnt.toNat = n

namespace Polls

variable {n : Nat} {s : State} {m : Move} {ms : List Move}

theorem of_sequencerPart {u t : State} (h : Inv t) (closed : u.lock = true) (point : u.seq = .waitW) (left : u.tcnt.toNat = n)
    (same : sequencerPart t = sequencerPart u) : Polls n t := by
  simp only [sequencerPart, Prod.mk.injEq] at same
  obtain ⟨lock, seq, tcnt, -⟩ := same
  exact ⟨h, lock.trans closed, seq.trans point, tcnt ▸ left⟩

/-- The counter is not 0 while the poll goes on (R213). -/
theorem pos (p : Polls n s) : 0 < n := by
  have counting := p.inv.sequencer.counting (.inl p.point)
  have left := p.left
  bv_omega

/-- A move that is not the sequencer's turn leaves the poll as it is. -/
theorem rests (p : Polls n s) (running : isReset m = false) (rests : stepsSequencer m = false) : ∃ t, perform m s = .next t ∧ Polls n t := by
  obtain ⟨t, ht⟩ := perform_next p.inv m
  exact ⟨t, ht, of_sequencerPart (perform_inv p.inv ht) p.closed p.point p.left (perform_rests p.closed running rests ht)⟩

/-- A move that is the sequencer's turn is one iteration (R213). -/
theorem iterates (p : Polls n s) (steps : stepsSequencer m = true) :
    ∃ t, perform m s = .next t ∧ sequencerPart t = sequencerPart (waitStep s) := by
  obtain ⟨t, ht⟩ := perform_next p.inv m
  obtain ⟨u, hu, same⟩ := perform_steps p.closed steps ht
  cases (seqStep_of_waitW p.point).symm.trans hu
  exact ⟨t, ht, same⟩

/-- An iteration that is not the last and finds the flag clear (R213). -/
theorem goes_on (p : Polls n s) (steps : stepsSequencer m = true) (clear : s.cflag = false) (more : 1 < n) :
    ∃ t, perform m s = .next t ∧ Polls (n - 1) t := by
  obtain ⟨t, ht, same⟩ := p.iterates steps
  rw [waitStep_of_more clear (p.left ▸ more)] at same
  have left : (waitTick s).tcnt.toNat = n - 1 := by rw [waitTick_tcnt, countDown_toNat, p.left]
  exact ⟨t, ht, of_sequencerPart (u := waitTick s) (perform_inv p.inv ht) p.closed p.point left same⟩

/-- The last iteration, finding the flag clear (R213, R214). -/
theorem times_out (p : Polls 1 s) (steps : stepsSequencer m = true) (clear : s.cflag = false) : ∃ t, perform m s = .next t ∧
    t.lock = false ∧ t.seq = .idle ∧ t.tcnt = 0 ∧ t.res = .timeout ∧ t.rsp = some 0x00000006 := by
  obtain ⟨t, ht, same⟩ := p.iterates steps
  have last : s.tcnt = 1 := BitVec.eq_of_toNat_eq p.left
  rw [waitStep_of_last clear last] at same
  simp only [sequencerPart, Prod.mk.injEq] at same
  obtain ⟨lock, seq, tcnt, -, -, res, -, rsp⟩ := same
  exact ⟨t, ht, lock, seq, tcnt, res, rsp⟩

/-- An iteration ends the wait or goes on with one less, whatever the flag is (R213, R215). -/
theorem ends_or_goes_on (p : Polls n s) (steps : stepsSequencer m = true) :
    ∃ t, perform m s = .next t ∧ (t.lock = false ∨ Polls (n - 1) t) := by
  by_cases going : s.cflag = false ∧ 1 < n
  · obtain ⟨t, ht, q⟩ := p.goes_on steps going.1 going.2
    exact ⟨t, ht, .inr q⟩
  · obtain ⟨t, ht, same⟩ := p.iterates steps
    have ended : (waitStep s).lock = false := by
      cases flag : s.cflag with
      | true => rw [waitStep_of_flag flag]; rfl
      | false =>
        have one : n = 1 := by have := p.pos; simp only [flag, true_and] at going; omega
        rw [waitStep_of_last flag (BitVec.eq_of_toNat_eq (p.left.trans one)), finish_lock]
    exact ⟨t, ht, .inl ((congrArg Prod.fst same).trans ended)⟩

/-- With the flag clear throughout, fewer iterations than are left leave the poll going (R214). -/
theorem polls_on (p : Polls n s) (running : ∀ m ∈ ms, isReset m = false)
    (clear : ∀ k u, runMoves (ms.take k) s = .next u → u.cflag = false) (fewer : ms.countP stepsSequencer < n) :
    ∃ u, runMoves ms s = .next u ∧ Polls (n - ms.countP stepsSequencer) u := by
  induction ms generalizing s n with
  | nil => exact ⟨s, rfl, p⟩
  | cons m ms ih =>
    have clear_after {v : State} (hv : perform m s = .next v) : ∀ k u, runMoves (ms.take k) v = .next u → u.cflag = false :=
      fun k u hu => clear (k + 1) u ((runMoves_cons hv _).trans hu)
    obtain ⟨running, later⟩ := List.forall_mem_cons.1 running
    cases steps : stepsSequencer m with
    | true =>
      rw [List.countP_cons_of_pos steps] at fewer ⊢
      obtain ⟨v, hv, q⟩ := p.goes_on steps (clear 0 s rfl) (by omega)
      obtain ⟨u, hu, q⟩ := ih q later (clear_after hv) (by omega)
      rw [Nat.sub_sub, Nat.add_comm 1] at q
      exact ⟨u, (runMoves_cons hv ms).trans hu, q⟩
    | false =>
      rw [List.countP_cons_of_neg (by simp [steps])] at fewer ⊢
      obtain ⟨v, hv, q⟩ := p.rests running steps
      obtain ⟨u, hu, q⟩ := ih q later (clear_after hv) fewer
      exact ⟨u, (runMoves_cons hv ms).trans hu, q⟩

/-- As many iterations as are left end the wait, whatever the flag does (R214). -/
theorem ends (p : Polls n s) (running : ∀ m ∈ ms, isReset m = false) (all : n ≤ ms.countP stepsSequencer) :
    ∃ k u, runMoves (ms.take k) s = .next u ∧ u.lock = false := by
  induction ms generalizing s n with
  | nil => exact absurd p.pos (by simpa using all)
  | cons m ms ih =>
    obtain ⟨running, later⟩ := List.forall_mem_cons.1 running
    have after {v : State} {k' : Nat} (hv : perform m s = .next v) (q : Polls k' v) (all : k' ≤ ms.countP stepsSequencer) :
        ∃ k u, runMoves ((m :: ms).take k) s = .next u ∧ u.lock = false := by
      obtain ⟨k, u, hu, ended⟩ := ih q later all
      exact ⟨k + 1, u, (runMoves_cons hv _).trans hu, ended⟩
    cases steps : stepsSequencer m with
    | true =>
      rw [List.countP_cons_of_pos steps] at all
      obtain ⟨v, hv, ended | q⟩ := p.ends_or_goes_on steps
      · exact ⟨1, v, runMoves_cons hv [], ended⟩
      · exact after hv q (by omega)
    | false =>
      rw [List.countP_cons_of_neg (by simp [steps])] at all
      obtain ⟨v, hv, q⟩ := p.rests running steps
      exact after hv q all

end Polls

/-- Settles O18: the sequencer's turns count the iterations and no other move touches the poll, so each bound is an induction over the moves. -/
theorem aWaitTimesOutAfterExactlyItsBudget : Obligations.AWaitTimesOutAfterExactlyItsBudget := by
  refine ⟨exec_wait_zero, fun s t b ms h _ positive ht running => ?_⟩
  cases (exec_wait_of_ne positive s).symm.trans ht
  have started : Polls b.toNat { s with tcnt := b, lock := true, seq := .waitW } := ⟨waitStart_inv h positive, rfl, rfl, rfl⟩
  refine ⟨fun clear => ⟨fun fewer => ?_, fun m steps last => ?_⟩, started.ends running⟩
  · obtain ⟨u, hu, p⟩ := started.polls_on running clear fewer
    exact ⟨u, hu, p.closed, p.point, by rw [p.left]; omega⟩
  · obtain ⟨u, hu, p⟩ := started.polls_on running clear (by omega)
    rw [show b.toNat - ms.countP stepsSequencer = 1 by omega] at p
    obtain ⟨v, hv, ended⟩ := p.times_out steps (clear ms.length u (by rw [List.take_length]; exact hu))
    exact ⟨v, runMoves_trans hu (runMoves_cons hv []), ended⟩

end Sys2Proof.Machine
end

section
/-! The sequencer's turn, point by point, and how many turns a command can still take (spec/44_transaction_primitives.md R233, R241 to R243, R249). -/

namespace Sys2Proof.Machine

/-! ### One turn -/

section Turn

variable {s : State}

theorem waitResult_of_flag (flag : s.cflag = true) : waitResult s = .done := if_pos flag

theorem waitResult_of_last (clear : s.cflag = false) (last : s.tcnt = 1) : waitResult s = .timeout := by
  rw [waitResult_eq, if_neg (by simp [clear]), last, countDown_one, if_pos rfl]

theorem waitResult_of_more (clear : s.cflag = false) (counting : s.tcnt ≠ 0) (more : s.tcnt ≠ 1) : waitResult s = .continue_ := by
  rw [waitResult_eq, if_neg (by simp [clear]), countDown_of_ne counting, if_neg (by bv_omega)]

/-- Every wait goes on while the flag is clear and budget is left (R213). -/
theorem seqStep_of_more (waits : s.seq = .waitW ∨ primWaits s) (clear : s.cflag = false) (counting : s.tcnt ≠ 0) (more : s.tcnt ≠ 1) :
    seqStep s = .next (waitTick s) := by
  have going := waitResult_of_more clear counting more
  rcases waits with point | point | point | point <;> simp only [seqStep, waitStep, primWaitStep, readPhaseOneStep, point, going]

/-- Every wait times out at the end of its budget, its counter being 0 then (R213, R233). -/
theorem seqStep_of_last (waits : s.seq = .waitW ∨ primWaits s) (clear : s.cflag = false) (last : s.tcnt = 1) :
    seqStep s = .next (finish .timeout (waitTick s)) := by
  have timeout := waitResult_of_last clear last
  have spent : (waitTick s).tcnt = 0 := by rw [waitTick_tcnt, last, countDown_one]
  rcases waits with point | point | point | point <;>
    simp only [seqStep, waitStep, primWaitStep, readPhaseOneStep, point, timeout, finishWait, finish, spent]

/-- The wait of a primitive returns the delivered event, but for a `Done` in phase one (R233, R241, R243). -/
theorem seqStep_of_event {c : Code} (waits : primWaits s) (flag : s.cflag = true) (event : classify s.evt = some c)
    (final : s.seq = .rb1W → s.evt ≠ .done) : seqStep s = .next (finish c (waitTick s)) := by
  have done := waitResult_of_flag flag
  have classified : finishClassified (waitTick s) = .next (finish c (waitTick s)) := by rw [finishClassified, waitTick_evt, event]
  rcases waits with point | point | point
  · simp only [seqStep, primWaitStep, point, done, classified]
  · -- What rules out the arm of `Success`, so that the other one is taken.
    have failed : classify s.evt ≠ some .success := fun success => final point (classify_success success)
    simp only [seqStep, readPhaseOneStep, point, done, classified]
  · simp only [seqStep, primWaitStep, point, done, classified]

/-- A delivered `Done` leads from phase one to the launch of phase two (R241). -/
theorem seqStep_of_phaseOneDone (point : s.seq = .rb1W) (flag : s.cflag = true) (clean : s.evt = .done) :
    seqStep s = .next { waitTick s with seq := .rb2L } := by
  simp only [seqStep, readPhaseOneStep, point, waitResult_of_flag flag, clean, classify]

/-- Phase two on its way: the read frame launched and its wait begun (R242). -/
def phaseTwoLaunched (s : State) : State :=
  { launch true false s.par.targetAddr s.rlen (flagReset s) with tcnt := s.tbudget, seq := .rb2W }

/-- Phase two passes every test of R141: phase one has left no frame outstanding, and the flag reset arms the block (R242). -/
theorem seqStep_of_phaseTwo (h : Inv s) (point : s.seq = .rb2L) : seqStep s = .next (phaseTwoLaunched s) := by
  obtain ⟨ready, -⟩ := h.sequencer.prim_ready (.inr point)
  obtain ⟨free, -⟩ := h.sequencer.phase_two_ready point
  obtain ⟨some, fits⟩ := h.sequencer.rlen_fits (.inr (.inl point))
  have accepted : submitCheck true false s.rlen (flagReset s) = .none :=
    submitCheck_none.2 ⟨ready, free, by simp [free], by simp, fun zero => by simp [zero] at some, fits⟩
  rw [seqStep, point]
  simp only [readPhaseTwoLaunch, accepted, phaseTwoLaunched]

/-- The edges of the sequencer's graph that leave a point other than `IDLE` (R249). -/
inductive SequencerEdge (s : State) : State → Prop where
  | stays (waits : s.seq = .waitW ∨ primWaits s) (clear : s.cflag = false) (more : s.tcnt ≠ 1) : SequencerEdge s (waitTick s)
  | ends (waits : s.seq = .waitW ∨ primWaits s) (final : s.seq = .rb1W → ¬ (s.cflag = true ∧ s.evt = .done)) (c : Code) (d : Imm24) :
      SequencerEdge s (answer c .none d { waitTick s with lock := false, seq := .idle })
  | phaseOneDone (point : s.seq = .rb1W) (flag : s.cflag = true) (clean : s.evt = .done) : SequencerEdge s { waitTick s with seq := .rb2L }
  | phaseTwo (point : s.seq = .rb2L) : SequencerEdge s (phaseTwoLaunched s)

theorem waits_of_closed (h : Inv s) (closed : s.lock = true) (point : s.seq ≠ .rb2L) : s.seq = .waitW ∨ primWaits s := by
  have working := h.sequencer.lock_iff.1 closed
  cases at_ : s.seq <;> simp_all [primWaits]

/-- With the port closed every turn of the sequencer is along an edge of its graph. -/
theorem seqStep_edge (h : Inv s) (closed : s.lock = true) : ∃ t, seqStep s = .next t ∧ SequencerEdge s t := by
  by_cases point : s.seq = .rb2L
  · exact ⟨_, seqStep_of_phaseTwo h point, .phaseTwo point⟩
  have waits := waits_of_closed h closed point
  cases flag : s.cflag with
  | true =>
    rcases waits with wait | prim
    · refine ⟨_, (seqStep_of_waitW wait).trans (congrArg _ (waitStep_of_flag flag)), .ends (.inl wait) ?_ _ _⟩
      simp [wait]
    · by_cases done : s.seq = .rb1W ∧ s.evt = .done
      · exact ⟨_, seqStep_of_phaseOneDone done.1 flag done.2, .phaseOneDone done.1 flag done.2⟩
      · obtain ⟨c, event⟩ := classify_some (h.arbiter.flag_delivered flag).2
        exact ⟨_, seqStep_of_event prim flag event fun point clean => done ⟨point, clean⟩,
          .ends (.inr prim) (fun point clean => done ⟨point, clean.2⟩) c 0⟩
  | false =>
    by_cases last : s.tcnt = 1
    · exact ⟨_, seqStep_of_last waits flag last, .ends waits (by simp [flag]) .timeout 0⟩
    · exact ⟨_, seqStep_of_more waits flag (h.sequencer.counting waits) last, .stays waits flag last⟩

end Turn

/-! ### The bound -/

/-- The command in execution has ended with a response (R233). -/
def commandEnded (s : State) : Prop := s.lock = false ∧ s.seq = .idle ∧ s.rsp ≠ none

theorem stepsLeft_of_sequencerPart {t u : State} (same : sequencerPart t = sequencerPart u) : stepsLeft t = stepsLeft u := by
  simp only [sequencerPart, Prod.mk.injEq] at same
  obtain ⟨-, seq, tcnt, tbudget, -⟩ := same
  simp only [stepsLeft, seq, tcnt, tbudget]

theorem commandEnded_of_sequencerPart {t u : State} (same : sequencerPart t = sequencerPart u) (ended : commandEnded u) : commandEnded t := by
  simp only [sequencerPart, Prod.mk.injEq] at same
  obtain ⟨lock, seq, -, -, -, -, -, rsp⟩ := same
  exact ⟨lock.trans ended.1, seq.trans ended.2.1, rsp ▸ ended.2.2⟩

theorem stepsLeft_pos {s : State} (h : Inv s) (closed : s.lock = true) : 0 < stepsLeft s := by
  by_cases point : s.seq = .rb2L
  · simp [stepsLeft, point]
  · have waits := waits_of_closed h closed point
    have counting : 0 < s.tcnt.toNat := by
      have := h.sequencer.counting waits
      bv_omega
    rcases waits with point | point | point | point <;> simp [stepsLeft, point, counting]

/-- A turn of the sequencer ends the command or leaves it fewer turns (R249). -/
theorem SequencerEdge.ends_or_decreases {s t : State} (edge : SequencerEdge s t) (h : Inv s) (closed : s.lock = true) :
    commandEnded t ∨ (t.lock = true ∧ stepsLeft t < stepsLeft s) := by
  have tick := countDown_toNat s.tcnt
  have pos := stepsLeft_pos h closed
  cases edge with
  | stays waits =>
    refine .inr ⟨closed, ?_⟩
    rcases waits with point | point | point | point <;> simp only [stepsLeft, waitTick_seq, waitTick_tcnt, waitTick_tbudget, point] at pos ⊢
    · omega
    · omega
    · have := h.sequencer.counting (.inr (.inr (.inl point)))
      bv_omega
    · omega
  | ends => exact .inl ⟨rfl, rfl, by simp⟩
  | phaseOneDone point =>
    have := h.sequencer.counting (.inr (.inr (.inl point)))
    refine .inr ⟨closed, ?_⟩
    simp only [stepsLeft, point, waitTick_tbudget]
    bv_omega
  | phaseTwo point =>
    refine .inr ⟨closed, ?_⟩
    simp only [stepsLeft, phaseTwoLaunched, point]
    omega

/-- As many turns of the sequencer as the command can still take end it, whatever the other moves are (R249). -/
theorem ends_within_stepsLeft {s : State} {ms : List Move} (h : Inv s) (closed : s.lock = true) (running : ∀ m ∈ ms, isReset m = false)
    (all : stepsLeft s ≤ ms.countP stepsSequencer) : ∃ k u, runMoves (ms.take k) s = .next u ∧ commandEnded u := by
  induction ms generalizing s with
  | nil =>
    have := stepsLeft_pos h closed
    rw [List.countP_nil] at all
    omega
  | cons m ms ih =>
    obtain ⟨running, later⟩ := List.forall_mem_cons.1 running
    obtain ⟨v, hv⟩ := perform_next h m
    have after (closed : v.lock = true) (all : stepsLeft v ≤ ms.countP stepsSequencer) :
        ∃ k u, runMoves ((m :: ms).take k) s = .next u ∧ commandEnded u := by
      obtain ⟨k, u, hu, ended⟩ := ih (perform_inv h hv) closed later all
      exact ⟨k + 1, u, (runMoves_cons hv _).trans hu, ended⟩
    cases steps : stepsSequencer m with
    | true =>
      rw [List.countP_cons_of_pos steps] at all
      obtain ⟨t, ht, same⟩ := perform_steps closed steps hv
      obtain ⟨_, ht', edge⟩ := seqStep_edge h closed
      cases ht.symm.trans ht'
      rcases edge.ends_or_decreases h closed with ended | ⟨going, fewer⟩
      · exact ⟨1, v, runMoves_cons hv [], commandEnded_of_sequencerPart same ended⟩
      · exact after ((congrArg Prod.fst same).trans going) (by rw [stepsLeft_of_sequencerPart same]; omega)
    | false =>
      rw [List.countP_cons_of_neg (by simp [steps])] at all
      have same := perform_rests closed running steps hv
      exact after ((congrArg Prod.fst same).trans closed) (by rw [stepsLeft_of_sequencerPart same]; exact all)

/-! ### The first step -/

/-- A primitive whose `host_cmd` step closes the port waits with the whole budget (R231). -/
theorem primLaunch_of_closed {d ns : Bool} {n l : Byte} {m : Memory} {q : SeqPoint} {s : State}
    (closed : (primLaunch d ns n l m q s).lock = true) :
    (primLaunch d ns n l m q s).seq = q ∧ (primLaunch d ns n l m q s).tcnt = s.tbudget ∧ (primLaunch d ns n l m q s).tbudget = s.tbudget := by
  rcases primLaunch_cases d ns n l m q s with ⟨-, -, e⟩ | ⟨-, -, e⟩ | ⟨-, e⟩ <;> rw [e] at closed ⊢
  · simp at closed
  · exact ⟨rfl, rfl, rfl⟩
  · simp at closed

theorem stepsLeft_of_primW {d ns : Bool} {n l : Byte} {m : Memory} {s : State} (closed : (primLaunch d ns n l m .primW s).lock = true) :
    stepsLeft (primLaunch d ns n l m .primW s) = s.tbudget.toNat := by
  obtain ⟨point, counter, -⟩ := primLaunch_of_closed closed
  simp only [stepsLeft, point, counter]

theorem stepsLeft_of_rb1W {d ns : Bool} {n l : Byte} {m : Memory} {s : State} (closed : (primLaunch d ns n l m .rb1W s).lock = true) :
    stepsLeft (primLaunch d ns n l m .rb1W s) = 2 * s.tbudget.toNat + 1 := by
  obtain ⟨point, counter, budget⟩ := primLaunch_of_closed closed
  simp only [stepsLeft, point, counter, budget]
  omega

/-- Settles O19: a turn of the sequencer ends the command or leaves it fewer turns, and no other move touches the count. -/
theorem multiStepCommandsEndWithinTheirBound : Obligations.MultiStepCommandsEndWithinTheirBound := by
  intro s t i h ready _ ht closed
  refine ⟨?_, ?_, ?_, ?_, fun ms running all => ends_within_stepsLeft (exec_inv h ready ht) closed running all⟩
  · rintro b rfl
    by_cases positive : b = 0
    · cases positive
      cases (exec_wait_zero s).symm.trans ht
      exact absurd (ready.symm.trans closed) (by simp)
    · cases (exec_wait_of_ne positive s).symm.trans ht
      rfl
  · rintro x y (rfl | rfl) <;> cases ht <;> exact stepsLeft_of_primW closed
  · rintro x y rfl
    cases ht
    exact stepsLeft_of_rb1W (s := { s with rlen := y }) closed
  · exact ((exec_flags ready ht).lock (by simp [ready, closed])).2

end Sys2Proof.Machine
end

section
/-! The waits of the primitives and the sequencer's graph (spec/44_transaction_primitives.md R233, R234, R241 to R243, R249). -/

namespace Sys2Proof.Machine

/-! ### A turn of a wait, with its whole next state -/

section WaitTurn

variable {s : State}

theorem perform_seq_of_closed (closed : s.lock = true) : perform .seq s = seqStep s := if_pos closed

theorem waitTick_of_counting (counting : s.tcnt ≠ 0) : waitTick s = { s with tcnt := s.tcnt - 1 } := by
  rw [waitTick, countDown_of_ne counting]

/-- The events a wait can meet, each with the code and the response it is returned under (R234, R300). -/
def eventResults : List (Ev × Code × Word) :=
  [(.done, .success, 0x00000000), (.addressNack, .addressNack, 0x00000002), (.dataNack, .dataNack, 0x00000003),
    (.overrun, .overrun, 0x00000004), (.busError, .busError, 0x00000005)]

theorem eventResults_classified : ∀ e ∈ eventResults, classify e.1 = some e.2.1 ∧ responseWord e.2.1 .none 0 = e.2.2 := by decide

theorem perform_seq_of_event (closed : s.lock = true) (waits : primWaits s) (counting : s.tcnt ≠ 0) (flag : s.cflag = true)
    (final : s.seq = .rb1W → s.evt ≠ .done) {e : Ev × Code × Word} (he : e ∈ eventResults) (event : s.evt = e.1) :
    perform .seq s = .next { s with
      tcnt := s.tcnt - 1, lock := false, seq := .idle, res := e.2.1, rej := .none, rsp := some e.2.2 } := by
  obtain ⟨code, response⟩ := eventResults_classified e he
  rw [perform_seq_of_closed closed, seqStep_of_event waits flag (event ▸ code) final, waitTick_of_counting counting, ← response]
  rfl

theorem perform_seq_of_last (closed : s.lock = true) (waits : primWaits s) (clear : s.cflag = false) (last : s.tcnt = 1) :
    perform .seq s = .next { s with
      tcnt := 0, lock := false, seq := .idle, res := .timeout, rej := .none, rsp := some 0x00000006 } := by
  rw [perform_seq_of_closed closed, seqStep_of_last (.inr waits) clear last, waitTick, last, countDown_one]
  rfl

theorem perform_seq_of_more (closed : s.lock = true) (waits : primWaits s) (counting : s.tcnt ≠ 0) (clear : s.cflag = false)
    (more : s.tcnt ≠ 1) : perform .seq s = .next { s with tcnt := s.tcnt - 1 } := by
  rw [perform_seq_of_closed closed, seqStep_of_more (.inr waits) clear counting more, waitTick_of_counting counting]

end WaitTurn

/-- Settles O24: the event decides where the flag is set, the counter where it is clear. -/
theorem aFrameWaitReturnsTheDeliveredEvent : Obligations.AFrameWaitReturnsTheDeliveredEvent := by
  intro s closed point counting
  have waits : primWaits s := point.imp_right .inr
  have final : s.seq = .rb1W → s.evt ≠ .done := fun phaseOne => by simp [phaseOne] at point
  exact ⟨fun h flag => (h.arbiter.flag_delivered flag).2, fun flag _ he => perform_seq_of_event closed waits counting flag final he,
    perform_seq_of_last closed waits, perform_seq_of_more closed waits counting⟩

/-- Settles O25: no event but `Done` is a success, and under the invariant the launch of phase two passes its check with the bus held. -/
theorem phaseTwoFollowsOnlyASuccessfulPhaseOne : Obligations.PhaseTwoFollowsOnlyASuccessfulPhaseOne := by
  refine ⟨fun s closed point counting => ?_, fun s h point => ?_⟩
  · have waits : primWaits s := .inr (.inl point)
    refine ⟨fun flag clean => ?_, fun flag e he event => ?_, perform_seq_of_last closed waits, perform_seq_of_more closed waits counting⟩
    · rw [perform_seq_of_closed closed, seqStep_of_phaseOneDone point flag clean, waitTick_of_counting counting]
    · have failed : ∀ e ∈ eventResults.tail, e.1 ≠ .done := by decide
      exact perform_seq_of_event closed waits counting flag (fun _ => event ▸ failed e he) (List.mem_of_mem_tail he) event
  · obtain ⟨-, budget⟩ := h.sequencer.prim_ready (.inr point)
    obtain ⟨-, held⟩ := h.sequencer.phase_two_ready point
    obtain ⟨claimed, -⟩ := h.frame.held_claimed held
    have closed := h.sequencer.lock_iff.2 (by simp [point])
    refine ⟨budget, claimed, ?_⟩
    rw [perform_seq_of_closed closed, seqStep_of_phaseTwo h point]
    simp only [phaseTwoLaunched, launch, flagReset, phaseCycles, claimed, if_true]

/-! ### Where a command leaves the sequencer -/

theorem submit_seq (dir ns : Bool) (a : BusAddr) (n : Byte) (s : State) : (submit dir ns a n s).seq = s.seq := by
  rcases submit_cases dir ns a n s with ⟨-, e⟩ | ⟨-, e⟩ <;> rw [e] <;> rfl

/-- A primitive waits exactly where its check passes and it has a budget (R231). -/
theorem primLaunch_seq (d ns : Bool) (n l : Byte) (m : Memory) (q : SeqPoint) (s : State) :
    (primLaunch d ns n l m q s).seq = if primCheck l s = .none ∧ s.tbudget ≠ 0 then q else .idle := by
  rcases primLaunch_cases d ns n l m q s with ⟨-, empty, e⟩ | ⟨accepted, budget, e⟩ | ⟨rejected, e⟩ <;> rw [e]
  · exact (if_neg fun passed => passed.2 empty).symm
  · exact (if_pos ⟨accepted, budget⟩).symm
  · exact (if_neg fun passed => rejected passed.1).symm

/-- One byte always fits, so `WREG` has no length to check (R232, R238). -/
theorem primCheck_one {s : State} : primCheck 1 s = .none ↔ s.lc = .ready ∧ s.busy = false := by
  have fits : 1 ≤ s.par.dataCap := Nat.le_trans (by decide) s.par.dataCap_bounds.1
  simp [primCheck_none, fits]

/-- A command of one step leaves the sequencer at its point. -/
theorem exec_seq_of_single {i : Instr} {s t : State} (ht : exec i s = .next t) (single : (∀ b, i ≠ .wait b) ∧ ¬ isPrimitive i) :
    t.seq = s.seq := by
  cases i with
  | wait b => exact absurd rfl (single.1 b)
  | wreg x y => exact absurd ⟨x, y, .inl rfl⟩ single.2
  | wblk x y => exact absurd ⟨x, y, .inr (.inl rfl)⟩ single.2
  | rblk x y => exact absurd ⟨x, y, .inr (.inr rfl)⟩ single.2
  | submitW | submitWN | submitR | submitRN => cases ht; exact submit_seq ..
  | frst | stmo => cases ht; rfl
  | stb | ldb | rdst => cases ht; split <;> rfl
  | init =>
    cases ht
    split
    · rfl
    · split <;> rfl

/-- Settles O26: command by command, edge by edge, and by the registers that only the sequencer writes while the port is closed. -/
theorem theSequencerFollowsItsGraph : Obligations.TheSequencerFollowsItsGraph := by
  refine ⟨fun i s t ready idle ht => ?_, fun s t h ht => ?_, fun m s t running rests closed ht => ?_⟩
  · have single := exec_seq_of_single ht
    rw [idle] at single
    cases i with
    | wait b =>
      by_cases empty : b = 0
      · cases empty
        cases (exec_wait_zero s).symm.trans ht
        exact idle
      · cases (exec_wait_of_ne empty s).symm.trans ht
        exact (if_neg empty).symm
    | wreg x y =>
      cases ht
      exact (primLaunch_seq ..).trans (if_congr (by rw [primCheck_one, and_assoc]) rfl rfl)
    | wblk x n =>
      cases ht
      exact (primLaunch_seq ..).trans (if_congr (by rw [primCheck_none]; tauto) rfl rfl)
    | rblk x n =>
      cases ht
      exact (primLaunch_seq ..).trans (if_congr (by rw [primCheck_none]; tauto) rfl rfl)
    | _ => exact single (by simp [isPrimitive])
  · cases closed : s.lock with
    | false =>
      cases (seqAgentStep_of_unlocked closed).symm.trans ht
      have idle := seq_idle_of_unlocked h closed
      simp [idle]
    | true =>
      obtain ⟨_, ht', edge⟩ := seqStep_edge h closed
      cases ((perform_seq_of_closed closed).trans ht').symm.trans ht
      cases edge with
      | stays waits clear more => rcases waits with point | point | point | point <;> simpa [point, clear] using more
      | ends waits final =>
        refine ⟨?_, fun same working => absurd same.symm working, fun point => by simpa using final point⟩
        rcases waits with point | point | point | point <;> simp [point]
      | phaseOneDone point flag clean => simp [point, flag, clean]
      | phaseTwo point => simp [point, phaseTwoLaunched]
  · have same := perform_rests closed running rests ht
    simp only [sequencerPart, Prod.mk.injEq] at same
    obtain ⟨lock, seq, tcnt, tbudget, rlen, -⟩ := same
    exact ⟨seq, tcnt, lock.trans closed, rlen, tbudget⟩

end Sys2Proof.Machine
end

section
/-! The `host_cmd` step of the primitives: check, staging, launch (spec/44_transaction_primitives.md R231, R232, R236, R238 to R240, R245). -/

namespace Sys2Proof.Machine

/-! ### The outcomes of `prim_launch` -/

section Launch

variable {d ns : Bool} {n l : Byte} {m : Memory} {q : SeqPoint} {s : State}

theorem primLaunch_of_started (accepted : primCheck l s = .none) (budget : s.tbudget ≠ 0) : primLaunch d ns n l m q s =
    { launch d ns s.par.targetAddr n { flagReset s with txb := m } with tcnt := s.tbudget, lock := true, seq := q } := by
  rcases primLaunch_cases d ns n l m q s with ⟨-, empty, -⟩ | ⟨-, -, e⟩ | ⟨rejected, -⟩
  · exact absurd empty budget
  · exact e
  · exact absurd accepted rejected

/-- Without a budget the frame is launched all the same (R231, R359). -/
theorem primLaunch_of_noBudget (accepted : primCheck l s = .none) (empty : s.tbudget = 0) : primLaunch d ns n l m q s =
    finish .timeout { launch d ns s.par.targetAddr n { flagReset s with txb := m } with tcnt := 0 } := by
  rcases primLaunch_cases d ns n l m q s with ⟨-, -, e⟩ | ⟨-, budget, -⟩ | ⟨rejected, -⟩
  · rw [e, empty]
  · exact absurd empty budget
  · exact absurd accepted rejected

theorem primLaunch_of_rejected {cause : Rej} (h : primCheck l s = cause) (rejects : cause ≠ .none) : primLaunch d ns n l m q s =
    answer .submissionRejected cause 0 { flagReset s with lock := false, seq := .idle } := by
  rcases primLaunch_cases d ns n l m q s with ⟨accepted, -⟩ | ⟨accepted, -⟩ | ⟨-, e⟩
  · exact absurd (h.symm.trans accepted) rejects
  · exact absurd (h.symm.trans accepted) rejects
  · rw [e, h]

theorem primLaunch_launches (accepted : primCheck l s = .none) :
    (primLaunch d ns n l m q s).busy = true ∧ (primLaunch d ns n l m q s).fes = .run := by
  rcases primLaunch_cases d ns n l m q s with ⟨-, -, e⟩ | ⟨-, -, e⟩ | ⟨rejected, -⟩
  · rw [e]; exact ⟨rfl, rfl⟩
  · rw [e]; exact ⟨rfl, rfl⟩
  · exact absurd accepted rejected

/-- Every primitive resets the flag, its check passed or not (R231). -/
theorem primLaunch_cflag : (primLaunch d ns n l m q s).cflag = false := by
  rcases primLaunch_cases d ns n l m q s with ⟨-, -, e⟩ | ⟨-, -, e⟩ | ⟨-, e⟩ <;> rw [e] <;> rfl

theorem primLaunch_rxb : (primLaunch d ns n l m q s).rxb = s.rxb := by
  rcases primLaunch_cases d ns n l m q s with ⟨-, -, e⟩ | ⟨-, -, e⟩ | ⟨-, e⟩ <;> rw [e] <;> rfl

/-- Nothing is staged by a rejected primitive; it is told by its result, read with the port open (R232, R245). -/
theorem primLaunch_txb : (primLaunch d ns n l m q s).txb =
    if (primLaunch d ns n l m q s).res = .submissionRejected ∧ (primLaunch d ns n l m q s).lock = false then s.txb else m := by
  rcases primLaunch_cases d ns n l m q s with ⟨-, -, e⟩ | ⟨-, -, e⟩ | ⟨-, e⟩ <;> rw [e]
  · exact (if_neg fun rejected => by simp at rejected).symm
  · exact (if_neg fun rejected => by simp at rejected).symm
  · exact (if_pos ⟨rfl, rfl⟩).symm

end Launch

theorem exec_of_primitive {i : Instr} (prim : isPrimitive i) (s : State) :
    ∃ ns n l rlen m q, exec i s = .next (primLaunch false ns n l m q { s with rlen := rlen }) := by
  obtain ⟨x, y, rfl | rfl | rfl⟩ := prim
  · exact ⟨_, _, _, s.rlen, _, _, rfl⟩
  · exact ⟨_, _, _, s.rlen, _, _, rfl⟩
  · exact ⟨_, _, _, y, _, _, rfl⟩

theorem isPrimitive_of_mem {x y : Byte} {i : Instr} (hi : i ∈ [Instr.wreg x y, .wblk x y, .rblk x y]) : isPrimitive i :=
  ⟨x, y, by simpa using hi⟩

/-! ### The commands -/

/-- Settles O21: the check passes, and the launch writes what R142 lists; the staged length does not wrap, `DATA_CAP` being 254 at most. -/
theorem primitivesLaunchTheirFrame : Obligations.PrimitivesLaunchTheirFrame := by
  refine ⟨fun reg x s ready free budget => ?_, fun reg x s ready free empty i hi fits => ?_⟩
  · have accepted (some : x ≠ 0) (fits : x.toNat ≤ s.par.dataCap) : primCheck x s = .none := primCheck_none.2 ⟨ready, free, some, fits⟩
    refine ⟨congrArg _ (primLaunch_of_started (primCheck_one.2 ⟨ready, free⟩) budget), fun some fits => ?_, fun some fits => ?_⟩
    · have staged : (x + 1).toNat = x.toNat + 1 := toNat_succ (by have := s.par.dataCap_bounds; omega)
      exact ⟨congrArg _ (primLaunch_of_started (accepted some fits) budget), staged, (stagedLength_fits (accepted some fits)).2⟩
    · exact congrArg _ (primLaunch_of_started (s := { s with rlen := x }) (accepted some fits) budget)
  · have accepted (other : i.1 ≠ .wreg reg x) : primCheck x s = .none := primCheck_none.2 ⟨ready, free, fits.resolve_left other⟩
    simp only [List.mem_cons, List.not_mem_nil, or_false] at hi
    rcases hi with rfl | rfl | rfl
    · exact congrArg _ (primLaunch_of_noBudget (primCheck_one.2 ⟨ready, free⟩) empty)
    · exact congrArg _ (primLaunch_of_noBudget (accepted (by simp)) empty)
    · exact congrArg _ (primLaunch_of_noBudget (s := { s with rlen := x }) (accepted (by simp)) empty)

/-- Settles O22: the first test of R232 that fails decides, and only the flag reset, and `RLEN` for `RBLK`, come before the tests. -/
theorem rejectedPrimitivesResetTheFlagOnly : Obligations.RejectedPrimitivesResetTheFlagOnly := by
  intro reg x s i hi rejected
  obtain ⟨ns, n, m, q, launches⟩ : ∃ ns n m q, exec i.1 s = .next (primLaunch false ns n i.2.2 m q { s with rlen := i.2.1 }) := by
    simp only [List.mem_cons, List.not_mem_nil, or_false] at hi
    rcases hi with rfl | rfl | rfl <;> exact ⟨_, _, _, _, rfl⟩
  have rejects {cause : Rej} (h : primCheck i.2.2 s = cause) (failing : cause ≠ .none) :
      rejected cause (responseWord .submissionRejected cause 0) := launches.trans (congrArg _ (primLaunch_of_rejected h failing))
  refine ⟨fun unready => ?_, fun ready busy => ?_, fun ready free unfit => ?_, fun ready free some fits => ?_⟩
  · exact rejects (cause := .notReady) (by simp [primCheck, unready]) (by simp)
  · exact rejects (cause := .busy) (by simp [primCheck, ready, busy]) (by simp)
  · exact rejects (cause := .badLength) (by simp only [primCheck, ready, free, unfit]; simp) (by simp)
  · exact ⟨_, launches, primLaunch_launches (primCheck_none.2 ⟨ready, free, some, fits⟩)⟩

/-- Settles O23: `TXB` is left as it was or as staged, and a buffer reads back what was put. -/
theorem primitivesStageExactlyTheirBytes : Obligations.PrimitivesStageExactlyTheirBytes := by
  intro reg x s t
  refine ⟨fun ht j => ?_, fun i hi ht j => ?_, fun i hi ht => ?_⟩
  · cases ht
    rw [primLaunch_txb]
    split
    · rfl
    · rw [Memory.get_put, Memory.get_put]
      by_cases first : j = 0 <;> simp [first]
  · have staged : t.txb = if t.res = .submissionRejected ∧ t.lock = false then s.txb else Memory.put s.txb 0 reg := by
      simp only [List.mem_cons, List.not_mem_nil, or_false] at hi
      rcases hi with rfl | rfl <;> cases ht <;> exact primLaunch_txb
    rw [staged]
    split
    · rfl
    · exact Memory.get_put ..
  · obtain ⟨ns, n, l, rlen, m, q, launches⟩ := exec_of_primitive (isPrimitive_of_mem hi) s
    cases launches.symm.trans ht
    exact primLaunch_rxb

/-! ### While a frame is outstanding -/

/-- Under the invariant a pending event is delivered at the completion unit's next turn (R311). -/
theorem perform_cb_of_pending {s : State} (h : Inv s) (pending : s.evtp ≠ .none) : perform .cb s = .next (deliverCompletion s) := by
  have enabled := h.lifecycle.ready_iff_enabled.1 (h.arbiter.busy_ready (h.arbiter.pending_over pending).1)
  have on : cbEnabled s = true := by
    simp [cbEnabled, pending, h.lifecycle.interrupt_with_enable, h.lifecycle.handler_with_enable, enabled]
  exact congrArg _ (if_pos on)

/-- Settles O51: a frame outstanding is a cause to reject before any length or form is looked at, and its event is deliverable. -/
theorem anOrphanFrameBlocksNewTransactions : Obligations.AnOrphanFrameBlocksNewTransactions := by
  intro s a x y h busy
  have ready := h.arbiter.busy_ready busy
  refine ⟨fun i hi => ?_, fun pending => ?_⟩
  · have form : (¬ isPrimitive i ∧ ∃ dir ns, exec i s = .next (submit dir ns a x s)) ∨ isPrimitive i := by
      simp only [List.mem_cons, List.not_mem_nil, or_false] at hi
      rcases hi with rfl | rfl | rfl | rfl | prim
      · exact .inl ⟨by simp [isPrimitive], false, false, rfl⟩
      · exact .inl ⟨by simp [isPrimitive], false, true, rfl⟩
      · exact .inl ⟨by simp [isPrimitive], true, false, rfl⟩
      · exact .inl ⟨by simp [isPrimitive], true, true, rfl⟩
      · exact .inr ⟨x, y, prim⟩
    rcases form with ⟨other, dir, ns, submits⟩ | prim
    · have rejected : submitCheck dir ns x s = .busy := by simp [submitCheck, ready, busy]
      exact ⟨_, submits.trans (congrArg _ (submit_of_rejected rejected (by simp))),
        rfl, busy, rfl, rfl, rfl, rfl, rfl, rfl, fun hi => absurd (isPrimitive_of_mem hi) other⟩
    · obtain ⟨ns, n, l, rlen, m, q, launches⟩ := exec_of_primitive prim s
      have rejected : primCheck l s = .busy := by simp [primCheck, ready, busy]
      exact ⟨_, launches.trans (congrArg _ (primLaunch_of_rejected rejected (by simp))),
        rfl, busy, rfl, rfl, rfl, rfl, rfl, rfl, fun _ => rfl⟩
  · refine ⟨_, perform_cb_of_pending h pending, rfl, rfl, rfl, rfl, fun i hi u hu => ?_⟩
    obtain ⟨ns, n, l, rlen, m, q, launches⟩ := exec_of_primitive (isPrimitive_of_mem hi) (deliverCompletion s)
    cases launches.symm.trans hu
    exact primLaunch_cflag

end Sys2Proof.Machine
end

section
/-! Buffer and status access: `STB`, `LDB`, `RDST` (spec/45_buffer_status.md R260 to R262). -/

namespace Sys2Proof.Machine

/-! ### `STB` -/

theorem storeAllowed_eq_true {idx : Byte} {s : State} :
    storeAllowed idx s = true ↔ idx.toNat < s.par.txCap ∧ (s.busy = false ∨ s.dir = true) := by
  simp [storeAllowed]

theorem storeAllowed_eq_false {idx : Byte} {s : State} :
    storeAllowed idx s = false ↔ s.par.txCap ≤ idx.toNat ∨ s.busy = true ∧ s.dir = false := by
  simp [storeAllowed, imp_iff_not_or]

theorem exec_stb_of_allowed {idx : Byte} {s : State} (b : Byte) (allowed : storeAllowed idx s = true) :
    exec (.stb idx b) s = .next (answer .success .none 0 { s with txb := Memory.put s.txb idx.toNat b }) :=
  congrArg _ (if_pos allowed)

theorem exec_stb_of_refused {idx : Byte} {s : State} (b : Byte) (refused : storeAllowed idx s = false) :
    exec (.stb idx b) s = .next (raiseIllegal s) :=
  congrArg _ (if_neg (Bool.eq_false_iff.1 refused))

/-- Settles O27: `STB` has one effect for each answer of its check, and a buffer reads back what was put. -/
theorem stbStoresOneByteOrIsIllegal : Obligations.StbStoresOneByteOrIsIllegal := by
  refine fun idx b s => ⟨fun inside free => ?_, fun refused => ?_⟩
  · exact ⟨_, exec_stb_of_allowed b (storeAllowed_eq_true.2 ⟨inside, free⟩), fun j => Memory.get_put ..⟩
  · exact exec_stb_of_refused b (storeAllowed_eq_false.2 refused)

/-! ### `LDB` -/

theorem loadAllowed_eq_true {idx : Byte} {s : State} :
    loadAllowed idx s = true ↔ idx.toNat < s.par.rxCap ∧ (s.busy = false ∨ s.dir = false) := by
  simp [loadAllowed]

theorem loadAllowed_eq_false {idx : Byte} {s : State} :
    loadAllowed idx s = false ↔ s.par.rxCap ≤ idx.toNat ∨ s.busy = true ∧ s.dir = true := by
  simp [loadAllowed, imp_iff_not_or]

/-- The response word of a load: the byte above eight zero bits. -/
theorem responseWord_byte (v : Byte) : responseWord .success .none ((0 : BitVec 16) ++ v) = v.zeroExtend 32 <<< 8 := by
  have widened : ((0 : BitVec 16) ++ v).zeroExtend 32 = v.zeroExtend 32 := by
    rw [BitVec.zeroExtend, BitVec.setWidth_append_eq_shiftLeft_setWidth_or]
    simp
  rw [responseWord_data, ← widened]

theorem exec_ldb_of_allowed {idx : Byte} {s : State} (allowed : loadAllowed idx s = true) :
    exec (.ldb idx) s = .next { s with
      draws := Memory.drawsAfter s.rxb idx.toNat s.draws, res := .success, rej := .none,
      rsp := some ((Memory.read s.rxb idx.toNat s.draws).zeroExtend 32 <<< 8) } := by
  rw [← responseWord_byte]
  exact congrArg _ (if_pos allowed)

theorem exec_ldb_of_refused {idx : Byte} {s : State} (refused : loadAllowed idx s = false) :
    exec (.ldb idx) s = .next (raiseIllegal s) :=
  congrArg _ (if_neg (Bool.eq_false_iff.1 refused))

/-- Settles O28: what is loaded is what the buffer reads as, a draw being used only where nothing has written the byte. -/
theorem ldbReturnsTheByteOrIsIllegal : Obligations.LdbReturnsTheByteOrIsIllegal := by
  refine fun idx s => ⟨fun inside free => ?_, fun refused => ?_⟩
  · have loads := exec_ldb_of_allowed (loadAllowed_eq_true.2 ⟨inside, free⟩)
    refine ⟨fun b written => ?_, fun _ => ⟨_, _, loads⟩⟩
    obtain ⟨value, draws⟩ := Memory.read_of_get s.draws written
    rw [loads, value, draws]
  · exact exec_ldb_of_refused (loadAllowed_eq_false.2 refused)

/-! ### `RDST` -/

/-- Selectors above 5 name no register (R262). -/
theorem selected_of_reserved {sel : Byte} (reserved : 5 < sel.toNat) (s : State) : selected sel s = none := by
  obtain ⟨n, above⟩ : ∃ n, sel.toNat = n + 6 := ⟨sel.toNat - 6, by omega⟩
  rw [selected, above]
  rfl

theorem exec_rdst_of_reserved {sel : Byte} (reserved : 5 < sel.toNat) (s : State) : exec (.rdst sel) s = .next (raiseIllegal s) := by
  rw [exec, execRdst, selected_of_reserved reserved]

/-- Settles O29: each listed selector names its register, and a selector above them none. -/
theorem rdstReadsARegisterAndChangesNothing : Obligations.RdstReadsARegisterAndChangesNothing := by
  refine fun sel s => ⟨fun r listed chosen => exec_rdst_of_selected ?_, fun reserved => exec_rdst_of_reserved reserved s⟩
  simp only [List.mem_cons, List.not_mem_nil, or_false] at listed
  rcases listed with rfl | rfl | rfl | rfl | rfl | rfl <;> cases chosen <;> rfl

end Sys2Proof.Machine
end

section
/-! The host's sequences, response by response: what `INITSENSOR` and `RDAXIS` present next, log and return
(spec/46_host_sequences.md R275, R277, R282 to R284; log entry 13). -/

namespace Sys2Proof.Machine

/-! ### One response -/

/-- The host reads the response `r` (R275). -/
def hear (s : State) (r : Word) : State := hostReceive { s with rsp := some r }

theorem hear_of_job {s : State} {j : HostJob} (h : s.job = some j) (r : Word) :
    hear s r = jobReceive j r { s with rsp := some r } := by
  simp only [hear, hostReceive, h]

/-- The responses so far and one more: the host reads that one last. -/
theorem foldl_hear_take_succ (s : State) {rs : List Word} {k : Nat} (h : k < rs.length) :
    (rs.take (k + 1)).foldl hear s = hear ((rs.take k).foldl hear s) rs[k] := by
  rw [List.take_succ_eq_append_getElem h, List.foldl_concat]

/-- What a response adds to the log: an entry if it tells of a failure (R275, R277). -/
def logged (op : HostOp) (r : Word) : List LogEntry := if respCode r = 0 then [] else [⟨op, respCode r, respRej r⟩]

theorem logFailure_eq (op : HostOp) (r : Word) (s : State) : logFailure op r s = { s with hostLog := s.hostLog ++ logged op r } := by
  unfold logFailure logged
  split
  · rw [List.append_nil]
  · rfl

/-! ### `INITSENSOR` -/

/-- The point at which byte `i` of the configuration is stored, or, after the last one, the block written (R277). -/
def storePoint (p : Params) (i : Nat) : InitPoint := if i < p.cfgLen then .store i else .configBlock

theorem storePoint_of_lt {p : Params} {i : Nat} (h : i < p.cfgLen) : storePoint p i = .store i := if_pos h

theorem storePoint_cfgLen (p : Params) : storePoint p p.cfgLen = .configBlock := if_neg (lt_irrefl _)

/-- `INITSENSOR` stands at a point, with what the host has logged so far. -/
structure InitAt (p : Params) (scl sda : Byte) (f : FreqCode) (pt : InitPoint) (log : List LogEntry) (s : State) : Prop where
  par : s.par = p
  job : s.job = some (.initSensor pt scl sda f)
  log : s.hostLog = log

/-- The bus cannot be initialised: the job ends (R277). -/
theorem hear_init_failure {scl sda : Byte} {f : FreqCode} {s : State} {r : Word} (h : s.job = some (.initSensor .init scl sda f))
    (fails : respCode r ≠ 0) : hear s r = { s with
      rsp := some r, job := none, hostResult := some .initFailed, hostLog := s.hostLog ++ [⟨.init, respCode r, respRej r⟩] } := by
  simp only [hear_of_job h, jobReceive, initSensorReceive, logFailure_eq, logged, if_neg fails, jobDone]

namespace InitAt

variable {p : Params} {scl sda : Byte} {f : FreqCode} {log : List LogEntry} {s : State} {r : Word}

theorem init_answered (h : InitAt p scl sda f .init log s) (succeeds : respCode r = 0) :
    InitAt p scl sda f .resetCommand log (hear s r) := by
  rw [hear_of_job h.job, jobReceive, initSensorReceive, if_pos succeeds]
  exact ⟨h.par, rfl, h.log⟩

theorem reset_answered (h : InitAt p scl sda f .resetCommand log s) (r : Word) :
    InitAt p scl sda f .powerManagement (log ++ logged .resetCommand r) (hear s r) := by
  rw [hear_of_job h.job, jobReceive, initSensorReceive, logFailure_eq]
  exact ⟨h.par, rfl, congrArg (· ++ _) h.log⟩

theorem power_answered (h : InitAt p scl sda f .powerManagement log s) (r : Word) :
    InitAt p scl sda f (storePoint p 0) (log ++ logged .powerManagement r) (hear s r) := by
  rw [hear_of_job h.job, jobReceive, initSensorReceive, logFailure_eq, storePoint_of_lt p.cfgLen_bounds.1]
  exact ⟨h.par, rfl, congrArg (· ++ _) h.log⟩

/-- One `STB` is answered, whatever the answer. -/
theorem store_answered {i : Nat} (inside : i < p.cfgLen) (h : InitAt p scl sda f (storePoint p i) log s) (r : Word) :
    InitAt p scl sda f (storePoint p (i + 1)) log (hear s r) := by
  obtain ⟨rfl, job, rfl⟩ := h
  rw [storePoint_of_lt inside] at job
  rw [hear_of_job job, jobReceive, initSensorReceive, storePoint]
  split
  · exact ⟨rfl, rfl, rfl⟩
  · exact ⟨rfl, rfl, rfl⟩

/-- As many `STB`s are answered as there are responses. -/
theorem stores_answered (rs : List Word) {i : Nat} (inside : i + rs.length ≤ p.cfgLen) (h : InitAt p scl sda f (storePoint p i) log s) :
    InitAt p scl sda f (storePoint p (i + rs.length)) log (rs.foldl hear s) := by
  induction rs generalizing i s with
  | nil => exact h
  | cons r rs ih =>
    rw [List.length_cons] at inside ⊢
    rw [← Nat.succ_add_eq_add_succ] at inside ⊢
    exact ih inside (h.store_answered (by omega) r)

/-- `INIT` has succeeded, and the answers to both register writes and to some of the `STB`s are in. -/
theorem answered (h : InitAt p scl sda f .init log s) {r0 : Word} (succeeds : respCode r0 = 0) (r1 r2 : Word) {rs : List Word}
    (inside : rs.length ≤ p.cfgLen) : InitAt p scl sda f (storePoint p rs.length)
      (log ++ logged .resetCommand r1 ++ logged .powerManagement r2) ((r0 :: r1 :: r2 :: rs).foldl hear s) := by
  have reached := (((h.init_answered succeeds).reset_answered r1).power_answered r2).stores_answered rs (by omega)
  rwa [Nat.zero_add] at reached

theorem block_answered (h : InitAt p scl sda f .configBlock log s) (r : Word) : (hear s r).job = none ∧
    (hear s r).hostResult = some .initOk ∧ (hear s r).hostLog = log ++ logged .configBlock r := by
  rw [hear_of_job h.job, jobReceive, initSensorReceive, logFailure_eq]
  exact ⟨rfl, rfl, congrArg (· ++ _) h.log⟩

/-- A job at a point presents that point's command. -/
theorem presents {pt : InitPoint} (h : InitAt p scl sda f pt log s) :
    ∃ j, s.job = some j ∧ jobInstr p j = jobInstr p (.initSensor pt scl sda f) :=
  ⟨_, h.job, rfl⟩

end InitAt

/-- The byte stored at point `i` is `CFG_DATA[i]` (R277). -/
theorem jobInstr_store {p : Params} {i : Nat} {b : Byte} (byte : p.cfgData[i]? = some b) (scl sda : Byte) (f : FreqCode) :
    jobInstr p (.initSensor (.store i) scl sda f) = .stb (BitVec.ofNat 8 (1 + i)) b := by
  rw [jobInstr, List.getD_eq_getElem?_getD, byte, Option.getD_some]

/-- Settles O58: the answer to `INIT` decides, and each answer after it, whatever it is, leads to the next point. -/
theorem initSensorIsBestEffort : Obligations.InitSensorIsBestEffort := by
  intro s scl sda f begun
  refine ⟨fun r fails => hear_init_failure begun fails, ?_⟩
  intro r0 r1 r2 r3 stored succeeds answers after presents _
  have atInit : InitAt s.par scl sda f .init s.hostLog s := ⟨rfl, begun, rfl⟩
  have atReset := atInit.init_answered succeeds
  have atPower := atReset.reset_answered r1
  have atStore (n : Nat) (h : n ≤ s.par.cfgLen) : InitAt s.par scl sda f (storePoint s.par n)
      (s.hostLog ++ logged .resetCommand r1 ++ logged .powerManagement r2) (after (3 + n)) := by
    have heard : (r0 :: r1 :: r2 :: stored ++ [r3]).take (3 + n) = r0 :: r1 :: r2 :: stored.take n := by
      simp [Nat.add_comm 3 n, List.take_append_of_le_length, answers, h]
    have length : (stored.take n).length = n := List.length_take_of_le (answers ▸ h)
    have reached := atInit.answered succeeds r1 r2 (length.le.trans h)
    rwa [length, ← heard] at reached
  have atBlock := storePoint_cfgLen s.par ▸ atStore s.par.cfgLen le_rfl
  have heard : after (4 + s.par.cfgLen) = hear (after (3 + s.par.cfgLen)) r3 := by
    have next := foldl_hear_take_succ s (rs := r0 :: r1 :: r2 :: stored ++ [r3]) (k := 3 + s.par.cfgLen) (by simp; omega)
    rwa [List.getElem_concat_length (by simp; omega), Nat.add_right_comm] at next
  refine ⟨atInit.presents, atReset.presents, atPower.presents, fun n b byte => ?_, atBlock.presents, ?_⟩
  · obtain ⟨inside, -⟩ := List.getElem?_eq_some_iff.1 byte
    have atByte := storePoint_of_lt inside ▸ atStore n inside.le
    exact jobInstr_store byte scl sda f ▸ atByte.presents
  · rw [heard]
    exact atBlock.block_answered r3

/-! ### `RDAXIS` -/

/-- The read fails: the job ends with its code, and nothing more is presented (R282). -/
theorem hear_read_failure {s : State} {r : Word} (h : s.job = some .readBlock) (fails : respCode r ≠ 0) :
    hear s r = { s with rsp := some r, job := none, hostResult := some (.axisError (respCode r)) } := by
  rw [hear_of_job h, jobReceive, if_neg fails, jobDone]

theorem job_hear_read {s : State} {r : Word} (h : s.job = some .readBlock) (succeeds : respCode r = 0) :
    (hear s r).job = some (.loadBytes []) := by
  rw [hear_of_job h, jobReceive, if_pos succeeds]

theorem axisSample_of_few {bytes : List Byte} (few : bytes.length < 6) : axisSample bytes = none := by
  unfold axisSample
  split
  · exact absurd few (lt_irrefl 6)
  · rfl

theorem job_hear_byte {got : List Byte} {s : State} (h : s.job = some (.loadBytes got)) (few : got.length + 1 < 6) (r : Word) :
    (hear s r).job = some (.loadBytes (got ++ [respByte r])) := by
  have more : axisSample (got ++ [respByte r]) = none := axisSample_of_few (by simpa using few)
  rw [hear_of_job h, jobReceive, bytesReceive, more]

/-- Fewer than six bytes have been loaded: the job goes on with them, in their order. -/
theorem job_hear_bytes (rs : List Word) {got : List Byte} {s : State} (h : s.job = some (.loadBytes got))
    (few : got.length + rs.length < 6) : (rs.foldl hear s).job = some (.loadBytes (got ++ rs.map respByte)) := by
  induction rs generalizing got s with
  | nil => simpa using h
  | cons r rs ih =>
    rw [List.length_cons] at few
    have next := job_hear_byte h (by omega) r
    simpa using ih next (by simp; omega)

/-- The sixth byte makes the sample. -/
theorem hear_last_byte {got : List Byte} {s : State} {r : Word} {v : HostResult} (h : s.job = some (.loadBytes got))
    (complete : axisSample (got ++ [respByte r]) = some v) : (hear s r).job = none ∧ (hear s r).hostResult = some v := by
  rw [hear_of_job h, jobReceive, bytesReceive, complete]
  exact ⟨rfl, rfl⟩

/-- `sext_16` in numbers (R17): from `0x8000` on, `0x10000` less. -/
theorem bigEndian16_eq (hi lo : Byte) : bigEndian16 hi lo =
    if hi.toNat * 256 + lo.toNat < 0x8000 then (hi.toNat * 256 + lo.toNat : Int) else (hi.toNat * 256 + lo.toNat : Int) - 0x10000 := by
  rw [bigEndian16, BitVec.toInt_eq_toNat_cond, toNat_append_eq_add]
  split <;> split <;> omega

theorem axisSample_toList (b : Vector Byte 6) : axisSample b.toList =
    some (.sample (bigEndian16 b[0] b[1]) (bigEndian16 b[2] b[3]) (bigEndian16 b[4] b[5])) := by
  obtain ⟨⟨bytes⟩, six⟩ := b
  match bytes, six with
  | [_, _, _, _, _, _], _ => rfl

/-- Settles O59: bytes are collected in order until six are in, and six bytes are three values. -/
theorem rdAxisReturnsTheSampleOrTheError : Obligations.RdAxisReturnsTheSampleOrTheError := by
  refine ⟨fun s begun => ⟨rfl, fun r fails => hear_read_failure begun fails, ?_⟩, by decide⟩
  intro r0 b rs succeeds carries after value
  have atFirst := job_hear_read begun succeeds
  have loading (k : Nat) (h : k < 6) : (after (1 + k)).job = some (.loadBytes ((rs.toList.take k).map respByte)) := by
    have heard : (r0 :: rs.toList).take (1 + k) = r0 :: rs.toList.take k := by rw [Nat.add_comm, List.take_succ_cons]
    simp only [after, heard]
    exact job_hear_bytes (rs.toList.take k) atFirst (by simp; omega)
  have bytes : rs.toList.map respByte = b.toList :=
    List.ext_getElem (by simp) fun i h _ => (List.getElem_map respByte).trans (carries ⟨i, by simpa using h⟩)
  refine ⟨fun k => ⟨_, loading k k.isLt, by simp [jobInstr]⟩, ?_⟩
  have heard : after 7 = hear (after 6) rs[5] := foldl_hear_take_succ s (rs := r0 :: rs.toList) (k := 6) (by simp)
  have complete : axisSample ((rs.toList.take 5).map respByte ++ [respByte rs[5]]) =
      some (.sample (value b[0] b[1]) (value b[2] b[3]) (value b[4] b[5])) := by
    have six : rs.toList.take 5 ++ [rs[5]] = rs.toList :=
      (List.take_succ_eq_append_getElem (i := 5) (by simp)).symm.trans (List.take_of_length_le (by simp))
    rw [← List.map_singleton, ← List.map_append, six, bytes, axisSample_toList]
    simp only [bigEndian16_eq, value]
  rw [heard]
  exact hear_last_byte (loading 5 (by omega)) complete

end Sys2Proof.Machine
end

section
/-! The bus lifecycle: `INIT` and the `Failed` state (spec/47_bus_lifecycle.md R290, R291). -/

namespace Sys2Proof.Machine

section Lifecycle

variable {s : State} {scl sda : Byte} {f : FreqCode}

/-! ### `INIT` -/

theorem exec_init_of_begun (begun : s.lc ≠ .uninit) : exec (.init scl sda f) s = .next (answer .initFailed .none 0 s) :=
  congrArg _ (if_pos begun)

theorem exec_init_of_fresh (fresh : s.lc = .uninit) : exec (.init scl sda f) s =
    .next (if s.par.initOk scl sda f = true then answer .success .none 0 (configure scl sda f s)
      else answer .initFailed .none 0 { s with lc := .failed }) :=
  congrArg _ (if_neg (not_not_intro fresh))

/-! ### Transactions before `Ready` -/

/-- A transaction is a `SUBMIT` or a primitive. -/
theorem submits_or_isPrimitive {a : BusAddr} {x y : Byte} {i : Instr}
    (hi : i ∈ [Instr.submitW a x, .submitWN a x, .submitR a x, .submitRN a x, .wreg x y, .wblk x y, .rblk x y]) (s : State) :
    (∃ dir ns, exec i s = .next (submit dir ns a x s)) ∨ isPrimitive i := by
  simp only [List.mem_cons, List.not_mem_nil, or_false] at hi
  rcases hi with rfl | rfl | rfl | rfl | prim
  · exact .inl ⟨false, false, rfl⟩
  · exact .inl ⟨false, true, rfl⟩
  · exact .inl ⟨true, false, rfl⟩
  · exact .inl ⟨true, true, rfl⟩
  · exact .inr ⟨x, y, prim⟩

theorem submitCheck_of_unready {dir ns : Bool} {l : Byte} (unready : s.lc ≠ .ready) : submitCheck dir ns l s = .notReady := if_pos unready

theorem primCheck_of_unready {l : Byte} (unready : s.lc ≠ .ready) : primCheck l s = .notReady := if_pos unready

/-! ### Quiet before `Ready` -/

theorem not_feEnabled_before_ready (h : Inv s) (unready : s.lc ≠ .ready) : feEnabled s = false := by
  simp [feEnabled, (h.lifecycle.quiet_before_ready unready).1]

theorem not_cbEnabled_before_ready (h : Inv s) (unready : s.lc ≠ .ready) : cbEnabled s = false := by
  have disabled : s.en = false := by simpa using mt h.lifecycle.ready_iff_enabled.2 unready
  simp [cbEnabled, h.lifecycle.interrupt_with_enable, disabled]

theorem linesReleased_before_ready (h : Inv s) (unready : s.lc ≠ .ready) : s.sclO = true ∧ s.sdaO = true :=
  (h.frame.released_unclaimed (.inl (h.lifecycle.quiet_before_ready unready).1)).2

end Lifecycle

/-! ### The statements -/

/-- Settles O11: outside `Uninit` nothing is tried; in `Uninit` the parameter predicate decides. -/
theorem initConfiguresTheControllerOnce : Obligations.InitConfiguresTheControllerOnce := by
  intro scl sda f s
  refine ⟨exec_init_of_begun, fun fresh bad => ?_, fun fresh good => ?_⟩
  · rw [exec_init_of_fresh fresh, if_neg (by simp [bad])]
    rfl
  · rw [exec_init_of_fresh fresh, if_pos good]
    rfl

/-- Settles O12: the block is not ready, so under the invariant its agents rest with the lines released, and every check of a
transaction fails its first test; the lifecycle stands by `configurationChangesOnceOnly`, `Uninit` being left behind. -/
theorem failedIsAbsorbingAndQuiet : Obligations.FailedIsAbsorbingAndQuiet := by
  intro s h failed
  have unready : s.lc ≠ .ready := by simp [failed]
  have begun : s.lc ≠ .uninit := by simp [failed]
  obtain ⟨sclReleased, sdaReleased⟩ := linesReleased_before_ready h unready
  refine ⟨not_feEnabled_before_ready h unready, not_cbEnabled_before_ready h unready, sclReleased, sdaReleased,
    fun _ _ _ => exec_init_of_begun begun, fun a x y i hi => ?_, fun m t running ht => ?_⟩
  · rcases submits_or_isPrimitive hi s with ⟨dir, ns, submits⟩ | prim
    · have rejected := submit_of_rejected (dir := dir) (nostop := ns) (a := a) (len := x) (submitCheck_of_unready unready) (by simp)
      exact ⟨_, submits.trans (congrArg _ rejected), rfl, rfl, rfl, rfl, rfl, rfl⟩
    · obtain ⟨ns, n, l, rlen, m, q, launches⟩ := exec_of_primitive prim s
      have rejected : primCheck l { s with rlen := rlen } = .notReady := primCheck_of_unready unready
      exact ⟨_, launches.trans (congrArg _ (primLaunch_of_rejected rejected (by simp))), rfl, rfl, rfl, rfl, rfl, rfl⟩
  · obtain ⟨-, moves, -⟩ := configurationChangesOnceOnly m s t ht
    obtain ⟨settled, -⟩ := moves running
    exact (settled begun).1.trans failed

end Sys2Proof.Machine
end

section
/-! Progress, and the completion interrupt (spec/60_exceptions.md R305, R311 to R313). -/

namespace Sys2Proof.Machine

/-- Settles O45: the state a step takes its move in meets the invariant too, and there no move stops. -/
theorem noStepStopsUnderTheInvariant : Obligations.NoStepStopsUnderTheInvariant := by
  refine fun s h => ⟨?_, perform_next h⟩
  obtain ⟨u, moved⟩ := perform_next (takeMove_inv h) (takeMove s).1
  exact ⟨hostReceive u, by rw [step, advance, moved, chain_next]⟩

/-! ### The completion interrupt -/

theorem cbEnabled_iff {s : State} : cbEnabled s = true ↔ s.evtp ≠ .none ∧ s.ien = true ∧ s.hreg = true := by
  simp [cbEnabled, and_assoc]

theorem irq_iff {s : State} : irq s = true ↔ s.evtp ≠ .none ∧ s.ien = true := by simp [irq]

/-- A pending event is that of an outstanding frame, which only a ready block has (R36, R313). -/
theorem cbEnabled_of_pending {s : State} (h : Inv s) (pending : s.evtp ≠ .none) : cbEnabled s = true := by
  have enabled := h.lifecycle.ready_iff_enabled.1 (h.arbiter.busy_ready (h.arbiter.pending_over pending).1)
  exact cbEnabled_iff.2 ⟨pending, h.lifecycle.interrupt_with_enable.trans enabled, h.lifecycle.handler_with_enable.trans enabled⟩

/-- Settles O41: the conditions by definition, and under the invariant the enabling bits stand while an event is pending. -/
theorem theCompletionInterruptIsDelivered : Obligations.TheCompletionInterruptIsDelivered := by
  intro s
  refine ⟨fun pending ien hreg => congrArg _ (if_pos (cbEnabled_iff.2 ⟨pending, ien, hreg⟩)), irq_iff, cbEnabled_iff, fun h => ?_⟩
  have enabled := cbEnabled_of_pending h
  refine ⟨h.lifecycle.interrupt_with_enable.trans h.lifecycle.handler_with_enable.symm, ⟨fun on => ?_, enabled⟩, fun pending => ?_⟩
  · obtain ⟨pending, -⟩ := cbEnabled_iff.1 on
    exact pending
  · obtain ⟨-, ien, -⟩ := cbEnabled_iff.1 (enabled pending)
    exact irq_iff.2 ⟨pending, ien⟩

end Sys2Proof.Machine
end

section
/-! The response to a command: when it comes, its code, its cause and its data (spec/30_encoding.md R117, R118; spec/60_exceptions.md R301,
R302). -/

namespace Sys2Proof.Machine

/-! ### The causes of a rejection -/

/-- The causes `submit_check` reports: the form is looked at before the length (R141). -/
theorem submitCheck_cause {dir ns : Bool} {l : Byte} {s : State} (rejects : submitCheck dir ns l s ≠ .none) :
    submitCheck dir ns l s ∈ [Rej.notReady, .busy, .notArmed, if dir = true ∧ ns = true then .badForm else .badLength] := by
  revert rejects
  unfold submitCheck
  repeat' split
  all_goals simp_all

/-- The causes `prim_check` reports (R232). -/
theorem primCheck_cause {l : Byte} {s : State} (rejects : primCheck l s ≠ .none) : primCheck l s ∈ [Rej.notReady, .busy, .badLength] := by
  revert rejects
  unfold primCheck
  repeat' split
  all_goals simp

/-- One byte is never too long (R9, R232). -/
theorem primCheck_one_cause {s : State} (rejects : primCheck 1 s ≠ .none) : primCheck 1 s ∈ [Rej.notReady, .busy] := by
  by_cases ready : s.lc = .ready
  · cases busy : s.busy with
    | true => simp [primCheck, ready, busy]
    | false => exact absurd (primCheck_one.2 ⟨ready, busy⟩) rejects
  · simp [primCheck, ready]

/-! ### The `host_cmd` step -/

/-- A code the command can return with neither a cause nor data (R118, R302). -/
def plainCode (i : Instr) (c : Code) : Prop :=
  c ∈ codesOf i ∧ c ≠ .submissionRejected ∧ (c = .success → (∀ sel, i ≠ .rdst sel) ∧ ∀ idx, i ≠ .ldb idx)

/-- What the `host_cmd` step of a command can do, the port being open (R117, R118, R302). -/
inductive CommandOutcome (i : Instr) (s : State) : State → Prop where
  | goesOn {t : State} (multi : (∃ b, i = .wait b) ∨ isPrimitive i) (closed : t.lock = true) (silent : t.rsp = s.rsp) :
      CommandOutcome i s t
  | rejects {u : State} {r : Rej} (ended : u.lock = false) (code : .submissionRejected ∈ codesOf i) (cause : r ∈ causesOf i) :
      CommandOutcome i s (answer .submissionRejected r 0 u)
  | answers {u : State} {c : Code} (ended : u.lock = false) (plain : plainCode i c) : CommandOutcome i s (answer c .none 0 u)
  | loads {u : State} {idx : Byte} (load : i = .ldb idx) (ended : u.lock = false) :
      CommandOutcome i s (answer .success .none ((0 : BitVec 16) ++ Memory.read s.rxb idx.toNat s.draws) u)
  | selects {sel : Byte} {v : Imm24} (status : i = .rdst sel) (chosen : selected sel s = some v) : CommandOutcome i s (answerOnly v s)

section HostCommand

variable {i : Instr} {s : State}

/-- A submission ends in its first step (R140, R144). -/
theorem submit_outcome {dir ns : Bool} {a : BusAddr} {l : Byte} (ready : s.lock = false) (codes : codesOf i = [.success, .submissionRejected])
    (causes : causesOf i = [Rej.notReady, .busy, .notArmed, if dir = true ∧ ns = true then .badForm else .badLength]) :
    CommandOutcome i s (submit dir ns a l s) := by
  rcases submit_cases dir ns a l s with ⟨-, e⟩ | ⟨rejects, e⟩ <;> rw [e]
  · refine .answers ready ⟨by simp [codes], by simp, fun _ => ⟨?_, ?_⟩⟩ <;> rintro _ rfl <;> simp [codesOf] at codes
  · exact .rejects ready (by simp [codes]) (causes ▸ submitCheck_cause rejects)

/-- A primitive goes on, unless it is rejected or has no budget (R231, R232). -/
theorem primLaunch_outcome {ns : Bool} {n l rlen : Byte} {m : Memory} {q : SeqPoint} (prim : isPrimitive i)
    (causes : primCheck l s ≠ .none → primCheck l s ∈ causesOf i) :
    CommandOutcome i s (primLaunch false ns n l m q { s with rlen := rlen }) := by
  have codes : Code.timeout ∈ codesOf i ∧ Code.submissionRejected ∈ codesOf i := by
    obtain ⟨x, y, rfl | rfl | rfl⟩ := prim <;> simp [codesOf, writeCodes, readCodes]
  rcases primLaunch_cases false ns n l m q { s with rlen := rlen } with ⟨-, -, e⟩ | ⟨-, -, e⟩ | ⟨rejects, e⟩ <;> rw [e]
  · exact .answers rfl ⟨codes.1, by simp, by simp⟩
  · exact .goesOn (.inr prim) rfl rfl
  · exact .rejects rfl codes.2 (causes rejects)

theorem exec_outcome {t : State} (ready : s.lock = false) (ht : exec i s = .next t) : CommandOutcome i s t := by
  cases i with
  | init scl sda f =>
    cases ht
    split
    · exact .answers ready (by simp [plainCode, codesOf])
    · split
      · exact .answers ready (by simp [plainCode, codesOf])
      · exact .answers ready (by simp [plainCode, codesOf])
  | frst => cases ht; exact .answers ready (by simp [plainCode, codesOf])
  | stmo b => cases ht; exact .answers ready (by simp [plainCode, codesOf])
  | submitW a n => cases ht; exact submit_outcome ready rfl rfl
  | submitWN a n => cases ht; exact submit_outcome ready rfl rfl
  | submitR a n => cases ht; exact submit_outcome ready rfl rfl
  | submitRN a n => cases ht; exact submit_outcome ready rfl rfl
  | wait b =>
    cases ht
    split
    · exact .answers ready (by simp [plainCode, codesOf])
    · exact .goesOn (.inl ⟨b, rfl⟩) rfl rfl
  | wreg r v =>
    cases ht
    exact primLaunch_outcome (rlen := s.rlen) ⟨r, v, .inl rfl⟩ primCheck_one_cause
  | wblk r n =>
    cases ht
    exact primLaunch_outcome (rlen := s.rlen) ⟨r, n, .inr (.inl rfl)⟩ primCheck_cause
  | rblk r n =>
    cases ht
    exact primLaunch_outcome (rlen := n) ⟨r, n, .inr (.inr rfl)⟩ primCheck_cause
  | stb idx b =>
    cases ht
    split
    · exact .answers ready (by simp [plainCode, codesOf])
    · exact .answers ready (by simp [plainCode, codesOf])
  | ldb idx =>
    cases ht
    split
    · exact .loads rfl ready
    · exact .answers ready (by simp [plainCode, codesOf])
  | rdst sel =>
    cases ht
    split
    · next chosen => exact .selects rfl chosen
    · exact .answers ready (by simp [plainCode, codesOf])

end HostCommand

/-- A load's data: the byte above sixteen zero bits (R118). -/
theorem zero_append_byte (b : Byte) : (0 : BitVec 16) ++ b = b.zeroExtend 24 := BitVec.eq_of_toNat_eq <| by
  rw [toNat_append_eq_add]
  simp
  omega

/-! ### The sequencer's step that ends a command -/

/-- The code of the event a primitive waited for: a write frame meets no overrun (R161, R302). -/
theorem eventCode_mem {s : State} {c : Code} (h : Inv s) (waits : primWaits s) (flag : s.cflag = true) (event : classify s.evt = some c) :
    c ∈ codesAt s.seq := by
  obtain ⟨free, -⟩ := h.arbiter.flag_delivered flag
  rcases waits with point | point | point
  · have sent : s.evt ≠ .overrun := h.sequencer.write_phase_event (.inl point) free
    rw [point]
    cases he : s.evt <;> simp_all [classify, codesAt, writeCodes]
  · rw [point]
    cases he : s.evt <;> simp_all [classify, codesAt, readCodes]
  · rw [point]
    cases he : s.evt <;> simp_all [classify, codesAt, readCodes]

theorem timeout_mem {s : State} (waits : s.seq = .waitW ∨ primWaits s) : Code.timeout ∈ codesAt s.seq := by
  rcases waits with point | point | point | point <;> rw [point] <;> decide

/-- Settles O31: the outcomes of the `host_cmd` step one by one, and the sequencer's turn by its point, the flag and the counter. -/
theorem everyCommandAnswersOnceWithItsCodes : Obligations.EveryCommandAnswersOnceWithItsCodes := by
  refine ⟨fun i s t ready silent ht => ?_, fun s t h closed silent ht => ?_⟩
  · cases exec_outcome ready ht with
    | goesOn multi closed kept => exact .inl ⟨closed, kept.trans silent, multi⟩
    | rejects ended code cause =>
      refine .inr ⟨ended, .submissionRejected, _, 0, rfl, code, by rwa [if_pos rfl], ?_⟩
      cases i <;> exact ⟨rfl, rfl, rfl⟩
    | answers ended plain =>
      obtain ⟨code, accepts, dataless⟩ := plain
      refine .inr ⟨ended, _, .none, 0, rfl, code, by rw [if_neg accepts], ?_⟩
      split
      · exact absurd rfl ((dataless rfl).1 _)
      · exact absurd rfl ((dataless rfl).2 _)
      · exact ⟨rfl, rfl, rfl⟩
    | loads load ended =>
      subst load
      refine .inr ⟨ended, .success, .none, _, rfl, by simp [codesOf], by simp, rfl, rfl, _, zero_append_byte _, fun v written => ?_⟩
      exact (Memory.read_of_get s.draws written).1
    | selects status chosen =>
      subst status
      exact .inr ⟨ready, .success, .none, _, rfl, by simp [codesOf], by simp, rfl, rfl, chosen⟩
  · rw [perform_seq_of_closed closed] at ht
    by_cases phaseTwo : s.seq = .rb2L
    · cases (seqStep_of_phaseTwo h phaseTwo).symm.trans ht
      exact .inl ⟨closed, silent, rfl, rfl⟩
    have waits := waits_of_closed h closed phaseTwo
    cases flag : s.cflag with
    | true =>
      rcases waits with wait | prim
      · cases ((seqStep_of_waitW wait).trans (congrArg _ (waitStep_of_flag flag))).symm.trans ht
        exact .inr ⟨rfl, .success, by rw [wait]; decide, by rw [if_pos wait]; rfl, rfl, rfl⟩
      · by_cases done : s.seq = .rb1W ∧ s.evt = .done
        · cases (seqStep_of_phaseOneDone done.1 flag done.2).symm.trans ht
          exact .inl ⟨closed, silent, rfl, rfl⟩
        · obtain ⟨c, event⟩ := classify_some (h.arbiter.flag_delivered flag).2
          have other : s.seq ≠ .waitW := fun wait => by simp [primWaits, wait] at prim
          cases (seqStep_of_event prim flag event fun point clean => done ⟨point, clean⟩).symm.trans ht
          exact .inr ⟨rfl, c, eventCode_mem h prim flag event, by rw [if_neg other]; rfl, rfl, rfl⟩
    | false =>
      by_cases last : s.tcnt = 1
      · have spent : (finish .timeout (waitTick s)).tcnt = 0 := (congrArg countDown last).trans countDown_one
        cases (seqStep_of_last waits flag last).symm.trans ht
        exact .inr ⟨rfl, .timeout, timeout_mem waits, by rw [spent, ite_self]; rfl, rfl, rfl⟩
      · cases (seqStep_of_more waits flag (h.sequencer.counting waits) last).symm.trans ht
        exact .inl ⟨closed, silent, rfl, rfl⟩

end Sys2Proof.Machine
end

section
/-! Reset at any time, and the first command after it (spec/70_reset_and_hazards.md R340). -/

namespace Sys2Proof.Machine

/-- A word taken at an open port is answered, or closes the port (R21, R37). -/
theorem takeWord_responds {w : Word} {s t : State} (ready : s.lock = false) (ht : takeWord w s = .next t) :
    t.rsp ≠ none ∨ t.lock = true := by
  unfold takeWord at ht
  split at ht
  · cases exec_outcome ready ht with
    | goesOn _ closed => exact .inr closed
    | rejects | answers | loads | selects => exact .inl (by simp)
  · cases ht
    exact .inl (by simp [raiseIllegal])

theorem takeWord_prog {w : Word} {s t : State} (ht : takeWord w s = .next t) : t.prog = s.prog := by
  unfold takeWord at ht
  split at ht
  · obtain ⟨-, prog, -⟩ : t.par = s.par ∧ t.prog = s.prog ∧ _ := by simpa only [around, Prod.mk.injEq] using exec_around ht
    exact prog
  · cases ht
    rfl

/-- A word presented on a clock edge at an open port is taken (R21). -/
theorem edgePort_of_word {e : EdgeIn} {s : State} {w : Word} {items : List HostItem} (running : e.rstN = true) (valid : e.cmdValid = true)
    (ready : s.lock = false) (alone : s.job = none) (next : s.prog = .word w :: items) :
    edgePort e s = takeWord w { s with prog := items } := by
  have taken : commandTaken e s = true := by simp [commandTaken, cmdReady, running, valid, ready]
  rw [edgePort, if_neg (by simp [ready]), whenOn, if_pos taken, presentNext_of_word alone next]

/-- Settles O3: the reset state by definition; after it the port is open; and only `INIT` in `Uninit` moves the lifecycle. -/
theorem resetMayHappenAtAnyTime : Obligations.ResetMayHappenAtAnyTime := by
  refine ⟨fun s e low m hm => ⟨none, ?_⟩, fun _ => rfl, fun p w items agenda draws e running valid => ?_, fun i s t begun ht => ?_⟩
  · simp only [List.mem_cons, List.not_mem_nil, or_false] at hm
    rcases hm with rfl | rfl
    · rfl
    · exact if_pos low
  · obtain ⟨t, ht⟩ := clockEdge_next (e := e) (boot_inv p (.word w :: items) agenda draws)
    obtain ⟨s1, s2, s3, port, engine, mover, completion⟩ := clockEdge_after_port running ht
    have taken : takeWord w (boot p items agenda draws) = .next s1 := (edgePort_of_word running valid rfl rfl rfl).symm.trans port
    have kept {α : Type} := after_port (α := α) engine mover completion
    refine ⟨t, ht, ?_, ?_⟩
    · exact (kept (·.prog) (fun _ _ => rfl) (fun _ _ _ _ => rfl) fun _ => rfl).trans (takeWord_prog taken)
    · rw [kept (·.rsp) (fun _ _ => rfl) (fun _ _ _ _ => rfl) fun _ => rfl,
        kept (·.lock) (fun _ _ => rfl) (fun _ _ _ _ => rfl) fun _ => rfl]
      exact takeWord_responds rfl taken
  · obtain ⟨settled, -⟩ := (exec_configurationStep ht).rules
    exact congrArg Prod.fst (settled begun)

end Sys2Proof.Machine
end

section
/-! The engine's clock: a phase takes the edges `QCNT` counts, and together they are one `fe_step` (spec/42_wire_protocol.md R172, R180;
spec/70_reset_and_hazards.md R362). -/

namespace Sys2Proof.Machine

/-! ### The phase counter at the end of a symbol -/

theorem byteReceived_qcnt (s : State) : (byteReceived s).qcnt = s.qcnt := by
  unfold byteReceived
  split <;> rfl

/-- The end of a symbol leaves the phase counter as it is (R150 to R158). -/
theorem symbolDone_qcnt {s t : State} (ht : symbolDone s = .next t) : t.qcnt = s.qcnt := by
  unfold symbolDone loadByte at ht
  split at ht
  case h_1 | h_2 | h_10 => cases ht; rfl
  case h_7 =>
    split at ht <;> cases ht
    · exact byteReceived_qcnt _
    · rfl
  case h_9 =>
    cases ht
    rcases stopDone_cases s with ⟨-, e⟩ | ⟨-, -, e⟩ | ⟨-, -, -, e⟩ <;> rw [e] <;> rfl
  all_goals
    repeat' split at ht
    all_goals cases ht <;> rfl

/-- A performed phase that does not end the frame leaves the phase counter loaded for the next one (R362). -/
theorem qcnt_of_performed {s t : State} {sclT sdaT : Bool} (run : s.fes = .run) (performed : (isRelease s.sym s.phi && !sclT) = false)
    (ht : perform (.fe sclT sdaT) s = .next t) (goesOn : t.fes = .run) : t.qcnt = phaseCycles s := by
  obtain ⟨lines, -, step⟩ := phaseStep_of_perform run ht
  cases step with
  | stalls stalled => simp [performed] at stalled
  | fails => cases goesOn
  | completes _ ht => exact symbolDone_qcnt ht
  | advances => rfl

/-! ### One edge -/

/-- The `fe_step` of a phase that does not stall (R172). -/
theorem feStep_of_performed {s : State} {sclT sdaT : Bool} {lines : Bool × Bool} (run : s.fes = .run) (out : currentLines s = some lines)
    (performed : (isRelease s.sym s.phi && !sclT) = false) :
    feStep sclT sdaT s = performPhase (level lines.1 sclT) (level lines.2 sdaT) (drive lines s) := by
  simp only [feStep, run, runStep_cases out, performed, Bool.false_eq_true, if_false]

/-- A performed phase loads the phase counter, whatever has been counted (R362). -/
theorem performPhase_of_counted (sclI sdaI : Bool) (s : State) (qcnt : Nat) :
    performPhase sclI sdaI { s with qcnt := qcnt } = performPhase sclI sdaI s := by
  simp only [performPhase, sample_eq]
  rfl

/-- The edges counted before a phase's last one make no difference to its `fe_step` (R362). -/
theorem feStep_of_counted {s : State} {sclT sdaT : Bool} {lines : Bool × Bool} (run : s.fes = .run) (out : currentLines s = some lines)
    (performed : (isRelease s.sym s.phi && !sclT) = false) (qcnt : Nat) :
    feStep sclT sdaT { drive lines s with qcnt := qcnt } = feStep sclT sdaT s := calc
  feStep sclT sdaT { drive lines s with qcnt := qcnt }
  _ = performPhase (level lines.1 sclT) (level lines.2 sdaT) { drive lines s with qcnt := qcnt } :=
    feStep_of_performed (s := { drive lines s with qcnt := qcnt }) run out performed
  _ = performPhase (level lines.1 sclT) (level lines.2 sdaT) (drive lines s) := performPhase_of_counted ..
  _ = feStep sclT sdaT s := (feStep_of_performed run out performed).symm

/-- On the last edge of a phase the engine takes its `fe_step` and brings the next phase's lines out (R362). -/
theorem feEdge_of_last {s : State} {sclT sdaT : Bool} (run : s.fes = .run) (performed : (isRelease s.sym s.phi && !sclT) = false)
    (last : ¬ 1 < s.qcnt) : feEdge sclT sdaT s = chain (feStep sclT sdaT s) fun t => .next (presentPhase t) := by
  rw [feEdge, if_pos run, if_neg (by simp [performed]), if_neg last]

section Alone

variable {s : State} {e : EdgeIn} (run : s.fes = .run) (ready : s.lock = false) (running : e.rstN = true) (silent : e.cmdValid = false)
  (noMove : e.moverGo = false) (noDelivery : e.cbGo = false)
include run ready running silent noMove noDelivery

/-- An edge on which no other agent acts is the engine's (R322). -/
theorem perform_edge_alone : perform (.edge e) s = feEdge e.sclT e.sdaT s := by
  have enabled : feEnabled s = true := by simp [feEnabled, run]
  have port : edgePort e s = .next s := by simp [edgePort, ready, commandTaken, silent, whenOn]
  simp only [perform, clockEdge_eq running, port, chain_next, enabled, whenOn, noMove, noDelivery, Bool.and_false, if_true,
    Bool.false_eq_true, if_false]
  cases feEdge e.sclT e.sdaT s <;> rfl

/-- With SCL held in an SCL-release phase nothing counts (R180, R362). -/
theorem perform_edge_of_held (stalled : (isRelease s.sym s.phi && !e.sclT) = true) : perform (.edge e) s = .next (presentPhase s) := by
  rw [perform_edge_alone run ready running silent noMove noDelivery, feEdge, if_pos run, if_pos stalled]

/-- An edge that is not the phase's last counts (R362). -/
theorem perform_edge_of_more (performed : (isRelease s.sym s.phi && !e.sclT) = false) (more : 1 < s.qcnt) :
    perform (.edge e) s = .next { presentPhase s with qcnt := s.qcnt - 1 } := by
  rw [perform_edge_alone run ready running silent noMove noDelivery, feEdge, if_pos run, if_neg (by simp [performed]), if_pos more]

end Alone

/-! ### The edges of a phase -/

/-- The edges a phase takes are together its `fe_step`, with the next phase's lines brought out (R362). -/
theorem runMoves_edges {e : EdgeIn} (running : e.rstN = true) (silent : e.cmdValid = false) (noMove : e.moverGo = false)
    (noDelivery : e.cbGo = false) (n : Nat) {s : State} (count : s.qcnt = n + 1) (run : s.fes = .run) (ready : s.lock = false)
    {lines : Bool × Bool} (out : currentLines s = some lines) (performed : (isRelease s.sym s.phi && !e.sclT) = false) :
    runMoves (List.replicate (n + 1) (.edge e)) s = chain (feStep e.sclT e.sdaT s) fun t => .next (presentPhase t) := by
  induction n generalizing s with
  | zero =>
    rw [List.replicate_one, runMoves, perform_edge_alone run ready running silent noMove noDelivery, feEdge_of_last run performed (by omega)]
    cases feStep e.sclT e.sdaT s <;> rfl
  | succ n ih =>
    have counts := perform_edge_of_more run ready running silent noMove noDelivery performed (by omega)
    rw [presentPhase_of_running run out] at counts
    rw [List.replicate_succ, runMoves_cons counts]
    exact (ih (s := { drive lines s with qcnt := s.qcnt - 1 }) (by simp [count]) run ready out performed).trans
      (congrArg (chain · _) (feStep_of_counted run out performed (s.qcnt - 1)))

/-- Settles O53: an edge by its case of R362, and the edges of a phase by induction on the count. -/
theorem aPhaseTakesItsClockCycles : Obligations.APhaseTakesItsClockCycles := by
  intro s e h run ready running silent noMove noDelivery
  have point := h.frame.phase_exists run
  obtain ⟨lines, out⟩ := currentLines_some h run
  have present : presentPhase s = drive lines s := presentPhase_of_running run out
  refine ⟨lines.1, lines.2, out, fun held second later => ?_, fun high => ?_⟩
  · have single : s.sym ≠ .h := fun hold => by simp [hold, second, Sym.phases] at point
    have stalled : (isRelease s.sym s.phi && !e.sclT) = true := by simp [held, isRelease_iff.2 ⟨later, single, second⟩]
    rw [perform_edge_of_held run ready running silent noMove noDelivery stalled, present]
    rfl
  · have performed : (isRelease s.sym s.phi && !e.sclT) = false := by
      rcases high with high | early | start
      · simp [high]
      · simp [mt (fun release => (isRelease_iff.1 release).2.2) early]
      · simp [start, isRelease]
    refine ⟨fun more => ?_, ?_⟩
    · rw [perform_edge_of_more run ready running silent noMove noDelivery performed more, present]
      rfl
    · obtain ⟨t, ht⟩ := feStep_next h e.sclT e.sdaT
      obtain ⟨n, count⟩ := Nat.exists_eq_add_one.2 (h.frame.phase_count run).1
      have edges : runMoves (List.replicate s.qcnt (.edge e)) s = .next (presentPhase t) := by
        rw [count, runMoves_edges running silent noMove noDelivery n count run ready out performed, ht, chain_next]
      by_cases goesOn : t.fes = .run
      · obtain ⟨next, out'⟩ := currentLines_some (feStep_inv h ht) goesOn
        rw [presentPhase_of_running goesOn out'] at edges
        exact ⟨t, next.1, next.2, ht, edges, fun _ => ⟨qcnt_of_performed run performed ht goesOn, out'⟩, fun ended => absurd goesOn ended⟩
      · rw [presentPhase_of_notRunning goesOn] at edges
        exact ⟨t, t.sclO, t.sdaO, ht, edges, fun again => absurd again goesOn, fun _ => ⟨rfl, rfl⟩⟩

end Sys2Proof.Machine
end

section
/-! Several agents on the same clock edge (spec/60_exceptions.md R322). -/

namespace Sys2Proof.Machine

/-- On the edge of a delivery the frame is over, so only the port acts before the completion unit (R40, R322). -/
theorem perform_edge_of_pending {e : EdgeIn} {s s1 : State} (h : Inv s) (running : e.rstN = true) (pending : s.evtp ≠ .none)
    (go : e.cbGo = true) (port : edgePort e s = .next s1) : perform (.edge e) s = .next (deliverCompletion s1) := by
  obtain ⟨-, ended, empty⟩ := h.arbiter.pending_over pending
  have resting : feEnabled s = false := by rcases ended with ended | ended <;> simp [feEnabled, ended]
  simp [perform, clockEdge_eq running, port, resting, empty, whenOn, cbEnabled_of_pending h pending, go]

/-- The last edge of a received byte that finds the holding register full: the byte is lost (R154, R362). -/
theorem feEdge_of_byteLost {s : State} {sclT sdaT : Bool} (run : s.fes = .run) (hs : s.sym = .rxbit) (last : s.phi = 3) (final : s.bitc = 0)
    (count : s.qcnt = 1) (full : s.rxv = true) : ∃ t, feEdge sclT sdaT s = .next t ∧
      t.errc = .overrun ∧ (t.rxb, t.ridx, t.rxd) = (s.rxb, s.ridx, s.rxd) := by
  have performed : (isRelease s.sym s.phi && !sclT) = false := by simp [hs, last, isRelease]
  obtain ⟨u, stepped, lost, kept⟩ : ∃ u, feStep sclT sdaT s = .next u ∧
      u.errc = .overrun ∧ (u.rxb, u.ridx, u.rxd) = (s.rxb, s.ridx, s.rxd) :=
    ⟨_, (perform_bitEnd run (by rw [hs]; rfl) last).trans (symbolDone_of_byteLost hs final full), rfl, rfl⟩
  obtain ⟨sclO, sdaO, presented⟩ := presentPhase_same u
  refine ⟨presentPhase u, ?_, ?_⟩
  · rw [feEdge_of_last run performed (by omega), stepped, chain_next]
  · rw [presented]
    exact ⟨lost, kept⟩

/-- Settles O52: on the edge of a delivery the port's part comes first; the engine loses the byte before the mover stores the one held. -/
theorem stepsOnOneEdgeTakeTheStatedOrder : Obligations.StepsOnOneEdgeTakeTheStatedOrder := by
  intro s e h running
  refine ⟨fun pending go point clear => ?_, fun pending go valid ready alone rest next => ?_,
    fun run hs last final count full go => ?_, fun closed v => ?_⟩
  · have closed := h.sequencer.lock_iff.2 (by simp [point])
    have counting := h.sequencer.counting (.inl point)
    have port : edgePort e s = .next (waitStep s) := (if_pos closed).trans (seqStep_of_waitW point)
    have delivered := perform_edge_of_pending h running pending go port
    by_cases spent : s.tcnt = 1
    · rw [waitStep_of_last clear spent] at delivered
      exact ⟨_, delivered, rfl, rfl, rfl, by simp [spent], fun _ => ⟨rfl, rfl⟩, fun more => absurd spent more⟩
    · rw [waitStep_of_more clear (by bv_omega)] at delivered
      exact ⟨_, delivered, rfl, rfl, rfl, countDown_of_ne counting, fun last => absurd last spent, fun _ => ⟨closed, point⟩⟩
  · obtain ⟨busy, -⟩ := h.arbiter.pending_over pending
    have taken : takeWord 0x20000000 { s with prog := rest } = exec .frst { s with prog := rest } := takeWord_encode .frst _
    have port := ((edgePort_of_word running valid ready alone next).trans taken).trans (exec_frst _)
    have cleared : (!s.busy) = false := by simp [busy]
    exact ⟨_, perform_edge_of_pending h running pending go port, rfl, rfl, cleared, rfl⟩
  · obtain ⟨busy, quiet⟩ := outstanding_of_inFlight h (.inl run)
    obtain ⟨s1, port⟩ := edgePort_next (e := e) h
    have part := edgePort_part port
    have answered := part.effect.answer_of_outstanding busy
    obtain ⟨s2, engine, lost, kept⟩ := feEdge_of_byteLost (sclT := e.sclT) (sdaT := e.sdaT) ((congrArg State.fes answered).trans run)
      ((congrArg State.sym answered).trans hs) ((congrArg State.phi answered).trans last) ((congrArg State.bitc answered).trans final)
      ((congrArg State.qcnt answered).trans count) ((congrArg State.rxv answered).trans full)
    have held : (s2.rxb, s2.ridx, s2.rxd) = (s.rxb, s.ridx, s.rxd) :=
      (kept.trans (congrArg (fun u : State => (u.rxb, u.ridx, u.rxd)) answered)).trans rfl
    simp only [Prod.mk.injEq] at held
    obtain ⟨-, ridx, rxd⟩ := held
    have place := place_of_full h (part.inv h) full part.effect (feEdge_effect engine)
    have enabled : feEnabled s = true := by simp [feEnabled, run]
    have undelivered : cbEnabled s = false := by simp [cbEnabled, quiet]
    refine ⟨byteMoved s2, ?_, lost, rfl, ?_⟩
    · simp [perform, clockEdge_eq running, port, enabled, whenOn, engine, full, go, moveByte_next place, undelivered, byteMoved]
    · rw [byteMoved_rxb, ridx, rxd, Memory.get_put_same]
  · simp only [perform, clockEdge_eq running, clockEdge_eq (e := { e with cmdValid := v }) running, edgePort, if_pos closed]

end Sys2Proof.Machine
end
